-- ==== Sys2Proof/Word.lean ====
section
/-!
DEFINITION. The two widths of the CPU08: the byte every bus access moves (20_memory.md R60) and the
16-bit word of `SP`, `PC`, `H:X` and every address (10_state.md R20).
-/

namespace Sys2Proof

/-- An 8-bit value: `A`, `H`, `X`, a memory location, an instruction byte (R8, R60). -/
abbrev Byte := BitVec 8

/-- A 16-bit value: `SP`, `PC`, `H:X`, an address (R20, R38). -/
abbrev Word := BitVec 16

end Sys2Proof
end

