-- ==== Sys2Proof/Config.lean ====
section
/-!
DEFINITION. What a device fixes around the CPU08 (the open parameters of 00_scope.md R7 and
92_eei_decisions.md D1 to D8), what its environment supplies at a step (60_exceptions.md R520), and
the free values: the draws the spec writes `x <- drawn` (00_scope.md R12). A free value is an opaque
constant with no body, so nothing can be proved of the value it has.
-/

namespace Sys2Proof

/-- What stands at an address of the memory map (parameter `MEM_MAP`, 92_eei_decisions.md D1). The
bytes of RAM and of the ROM image are held in the machine's memory. -/
inductive MemKind where
  /-- Returns the value last written (20_memory.md R75). -/
  | ram
  /-- Returns its fixed content; a write changes nothing (20_memory.md R77). -/
  | rom
  /-- A peripheral register: the environment supplies reads and receives writes (20_memory.md R78). -/
  | io
  /-- Nothing there: reads as a fresh drawn value, ignores writes (20_memory.md R79). -/
  | unimplemented
  deriving DecidableEq, Repr

/-- A range of addresses, both ends included. -/
structure AddrRange where
  lo : Nat
  hi : Nat
  deriving DecidableEq, Repr

/-- One entry of the memory map. -/
structure Region where
  range : AddrRange
  kind : MemKind
  deriving DecidableEq, Repr

/-- The six reset sources a device may have (60_exceptions.md R501, parameter `RESET_SOURCES`). -/
inductive ResetSource where
  | externalPin
  | powerOn
  | cop
  | lowVoltage
  | illegalOpcode
  | illegalAddress
  deriving DecidableEq, Repr

/-- The device around the CPU: plain data, constant while the machine runs. -/
structure Device where
  /-- `MEM_MAP` (D1): the first region that holds an address says what stands there; an address in
  no region is unimplemented. -/
  memMap : List Region
  /-- `ILLEGAL_ADDR` (D3): the addresses whose access raises the illegal-address reset. -/
  illegalAddr : List AddrRange
  /-- `N_IREQ` (D5): lines `IREQ[0 .. nIreq-1]` exist. -/
  nIreq : Nat
  /-- `STOP_WAKE` (D8): the lines that end stop mode. -/
  stopWake : List Nat
  /-- `RESET_SOURCES` (D7). -/
  resetSources : List ResetSource
  deriving DecidableEq, Repr

/-- An asynchronous reset event on its way: it is delivered after `after` more bus accesses, at once
when `after` is 0 (60_exceptions.md R502: at a boundary, or inside an instruction after any prefix
of its accesses; 92_eei_decisions.md D24). -/
structure ResetEvent where
  source : ResetSource
  after : Nat
  deriving DecidableEq, Repr

/-- What the environment presents at one call of `step` (60_exceptions.md R520). -/
structure StepInput where
  /-- A reset event that starts at this step, if any (R502). -/
  reset : Option ResetEvent
  /-- The request lines asserted at this boundary (R512). -/
  ireq : List Nat
  /-- The level of the external interrupt pin, `true` = high (R376, R377, D6). -/
  irqPin : Bool
  /-- The operating mode the mode pins select, `true` = monitor mode (R551, D4). -/
  modePin : Bool
  deriving DecidableEq, Repr

/-- One thing the environment sees of the CPU: a bus access to an I/O address (R78, R520). -/
inductive IoEvent where
  | read (addr : Word) (value : Byte)
  | write (addr : Word) (value : Byte)
  deriving DecidableEq, Repr

/-- FREE VALUE. The `k`-th drawn byte (`x <- drawn`, 00_scope.md R12). -/
opaque Config.freeByte : Nat → Byte

/-- FREE VALUE. The `k`-th drawn bit (`x <- drawn`, 00_scope.md R12). -/
opaque Config.freeBit : Nat → Bool

/-- FREE VALUE. What a location of RAM holds after the `k`-th loss of power when nothing has written it
since: "a value the model draws once for that location" (20_memory.md R76, 92_eei_decisions.md D26). -/
opaque Config.powerOnByte : Nat → Nat → Byte

/-- FREE VALUE. The fixed content of a location of ROM whose image nobody has given (20_memory.md R77,
parameter `MEM_MAP`, 92_eei_decisions.md D1). -/
opaque Config.romByte : Nat → Byte

end Sys2Proof
end

