-- ==== Sys2Proof/Syntax.lean ====
section
/-!
DEFINITION. The instructions of the CPU08, one constructor per row of spec/opcode_table.json (the
opcode map, 30_encoding.md R110): the rows with operand bytes first, then the inherent ones, each in
the table's order (the runtime numbers only 244 constructors with fields); and the addressing modes
with a memory operand (40_addressing_modes.md R140). An operand is written with the machine-code letters of
00_scope.md R15: `ii` immediate byte, `dd` low byte of a direct address, `hhll` extended address,
`ff` 8-bit offset, `eeff` 16-bit offset, `jjkk` 16-bit immediate, `rr` relative offset. A mode in a
constructor's name is the table's, with `Inc` for a post-increment `+`.
-/

namespace Sys2Proof

/-- The instructions, one constructor per cell of the opcode map (30_encoding.md R110). -/
inductive Instr where
  | brset0 (dd rr : Byte)
  | brclr0 (dd rr : Byte)
  | brset1 (dd rr : Byte)
  | brclr1 (dd rr : Byte)
  | brset2 (dd rr : Byte)
  | brclr2 (dd rr : Byte)
  | brset3 (dd rr : Byte)
  | brclr3 (dd rr : Byte)
  | brset4 (dd rr : Byte)
  | brclr4 (dd rr : Byte)
  | brset5 (dd rr : Byte)
  | brclr5 (dd rr : Byte)
  | brset6 (dd rr : Byte)
  | brclr6 (dd rr : Byte)
  | brset7 (dd rr : Byte)
  | brclr7 (dd rr : Byte)
  | bset0 (dd : Byte)
  | bclr0 (dd : Byte)
  | bset1 (dd : Byte)
  | bclr1 (dd : Byte)
  | bset2 (dd : Byte)
  | bclr2 (dd : Byte)
  | bset3 (dd : Byte)
  | bclr3 (dd : Byte)
  | bset4 (dd : Byte)
  | bclr4 (dd : Byte)
  | bset5 (dd : Byte)
  | bclr5 (dd : Byte)
  | bset6 (dd : Byte)
  | bclr6 (dd : Byte)
  | bset7 (dd : Byte)
  | bclr7 (dd : Byte)
  | bra (rr : Byte)
  | brn (rr : Byte)
  | bhi (rr : Byte)
  | bls (rr : Byte)
  | bcc (rr : Byte)
  | bcs (rr : Byte)
  | bne (rr : Byte)
  | beq (rr : Byte)
  | bhcc (rr : Byte)
  | bhcs (rr : Byte)
  | bpl (rr : Byte)
  | bmi (rr : Byte)
  | bmc (rr : Byte)
  | bms (rr : Byte)
  | bil (rr : Byte)
  | bih (rr : Byte)
  | negDir (dd : Byte)
  | cbeqDir (dd rr : Byte)
  | comDir (dd : Byte)
  | lsrDir (dd : Byte)
  | sthx (dd : Byte)
  | rorDir (dd : Byte)
  | asrDir (dd : Byte)
  | lslDir (dd : Byte)
  | rolDir (dd : Byte)
  | decDir (dd : Byte)
  | dbnzDir (dd rr : Byte)
  | incDir (dd : Byte)
  | tstDir (dd : Byte)
  | clrDir (dd : Byte)
  | cbeqa (ii rr : Byte)
  | ldhxImm (jjkk : Word)
  | dbnza (rr : Byte)
  | movDirDir (src dst : Byte)
  | cbeqx (ii rr : Byte)
  | ldhxDir (dd : Byte)
  | dbnzx (rr : Byte)
  | movDirIxInc (dd : Byte)
  | negIx1 (ff : Byte)
  | cbeqIx1Inc (ff rr : Byte)
  | comIx1 (ff : Byte)
  | lsrIx1 (ff : Byte)
  | cphxImm (jjkk : Word)
  | rorIx1 (ff : Byte)
  | asrIx1 (ff : Byte)
  | lslIx1 (ff : Byte)
  | rolIx1 (ff : Byte)
  | decIx1 (ff : Byte)
  | dbnzIx1 (ff rr : Byte)
  | incIx1 (ff : Byte)
  | tstIx1 (ff : Byte)
  | movImmDir (ii dd : Byte)
  | clrIx1 (ff : Byte)
  | cbeqIxInc (rr : Byte)
  | cphxDir (dd : Byte)
  | dbnzIx (rr : Byte)
  | movIxIncDir (dd : Byte)
  | bge (rr : Byte)
  | blt (rr : Byte)
  | bgt (rr : Byte)
  | ble (rr : Byte)
  | subImm (ii : Byte)
  | cmpImm (ii : Byte)
  | sbcImm (ii : Byte)
  | cpxImm (ii : Byte)
  | andImm (ii : Byte)
  | bitImm (ii : Byte)
  | ldaImm (ii : Byte)
  | ais (ii : Byte)
  | eorImm (ii : Byte)
  | adcImm (ii : Byte)
  | oraImm (ii : Byte)
  | addImm (ii : Byte)
  | bsr (rr : Byte)
  | ldxImm (ii : Byte)
  | aix (ii : Byte)
  | subDir (dd : Byte)
  | cmpDir (dd : Byte)
  | sbcDir (dd : Byte)
  | cpxDir (dd : Byte)
  | andDir (dd : Byte)
  | bitDir (dd : Byte)
  | ldaDir (dd : Byte)
  | staDir (dd : Byte)
  | eorDir (dd : Byte)
  | adcDir (dd : Byte)
  | oraDir (dd : Byte)
  | addDir (dd : Byte)
  | jmpDir (dd : Byte)
  | jsrDir (dd : Byte)
  | ldxDir (dd : Byte)
  | stxDir (dd : Byte)
  | subExt (hhll : Word)
  | cmpExt (hhll : Word)
  | sbcExt (hhll : Word)
  | cpxExt (hhll : Word)
  | andExt (hhll : Word)
  | bitExt (hhll : Word)
  | ldaExt (hhll : Word)
  | staExt (hhll : Word)
  | eorExt (hhll : Word)
  | adcExt (hhll : Word)
  | oraExt (hhll : Word)
  | addExt (hhll : Word)
  | jmpExt (hhll : Word)
  | jsrExt (hhll : Word)
  | ldxExt (hhll : Word)
  | stxExt (hhll : Word)
  | subIx2 (eeff : Word)
  | cmpIx2 (eeff : Word)
  | sbcIx2 (eeff : Word)
  | cpxIx2 (eeff : Word)
  | andIx2 (eeff : Word)
  | bitIx2 (eeff : Word)
  | ldaIx2 (eeff : Word)
  | staIx2 (eeff : Word)
  | eorIx2 (eeff : Word)
  | adcIx2 (eeff : Word)
  | oraIx2 (eeff : Word)
  | addIx2 (eeff : Word)
  | jmpIx2 (eeff : Word)
  | jsrIx2 (eeff : Word)
  | ldxIx2 (eeff : Word)
  | stxIx2 (eeff : Word)
  | subIx1 (ff : Byte)
  | cmpIx1 (ff : Byte)
  | sbcIx1 (ff : Byte)
  | cpxIx1 (ff : Byte)
  | andIx1 (ff : Byte)
  | bitIx1 (ff : Byte)
  | ldaIx1 (ff : Byte)
  | staIx1 (ff : Byte)
  | eorIx1 (ff : Byte)
  | adcIx1 (ff : Byte)
  | oraIx1 (ff : Byte)
  | addIx1 (ff : Byte)
  | jmpIx1 (ff : Byte)
  | jsrIx1 (ff : Byte)
  | ldxIx1 (ff : Byte)
  | stxIx1 (ff : Byte)
  | negSp1 (ff : Byte)
  | cbeqSp1 (ff rr : Byte)
  | comSp1 (ff : Byte)
  | lsrSp1 (ff : Byte)
  | rorSp1 (ff : Byte)
  | asrSp1 (ff : Byte)
  | lslSp1 (ff : Byte)
  | rolSp1 (ff : Byte)
  | decSp1 (ff : Byte)
  | dbnzSp1 (ff rr : Byte)
  | incSp1 (ff : Byte)
  | tstSp1 (ff : Byte)
  | clrSp1 (ff : Byte)
  | subSp2 (eeff : Word)
  | cmpSp2 (eeff : Word)
  | sbcSp2 (eeff : Word)
  | cpxSp2 (eeff : Word)
  | andSp2 (eeff : Word)
  | bitSp2 (eeff : Word)
  | ldaSp2 (eeff : Word)
  | staSp2 (eeff : Word)
  | eorSp2 (eeff : Word)
  | adcSp2 (eeff : Word)
  | oraSp2 (eeff : Word)
  | addSp2 (eeff : Word)
  | ldxSp2 (eeff : Word)
  | stxSp2 (eeff : Word)
  | subSp1 (ff : Byte)
  | cmpSp1 (ff : Byte)
  | sbcSp1 (ff : Byte)
  | cpxSp1 (ff : Byte)
  | andSp1 (ff : Byte)
  | bitSp1 (ff : Byte)
  | ldaSp1 (ff : Byte)
  | staSp1 (ff : Byte)
  | eorSp1 (ff : Byte)
  | adcSp1 (ff : Byte)
  | oraSp1 (ff : Byte)
  | addSp1 (ff : Byte)
  | ldxSp1 (ff : Byte)
  | stxSp1 (ff : Byte)
  | nega
  | mul
  | coma
  | lsra
  | rora
  | asra
  | lsla
  | rola
  | deca
  | inca
  | tsta
  | clra
  | negx
  | div
  | comx
  | lsrx
  | rorx
  | asrx
  | lslx
  | rolx
  | decx
  | incx
  | tstx
  | clrx
  | nsa
  | negIx
  | daa
  | comIx
  | lsrIx
  | rorIx
  | asrIx
  | lslIx
  | rolIx
  | decIx
  | incIx
  | tstIx
  | clrIx
  | rti
  | rts
  | swi
  | tap
  | tpa
  | pula
  | psha
  | pulx
  | pshx
  | pulh
  | pshh
  | clrh
  | stop
  | wait
  | txs
  | tsx
  | tax
  | clc
  | sec
  | cli
  | sei
  | rsp
  | nop
  | txa
  | subIx
  | cmpIx
  | sbcIx
  | cpxIx
  | andIx
  | bitIx
  | ldaIx
  | staIx
  | eorIx
  | adcIx
  | oraIx
  | addIx
  | jmpIx
  | jsrIx
  | ldxIx
  | stxIx
  deriving DecidableEq, Repr

/-- The seven ways the register/memory group names a byte of memory (40_addressing_modes.md R143,
R144, R147 to R149, R151, R152). -/
inductive Addr where
  | dir (dd : Byte)
  | ext (hhll : Word)
  | ix2 (eeff : Word)
  | ix1 (ff : Byte)
  | ix
  | sp2 (eeff : Word)
  | sp1 (ff : Byte)
  deriving DecidableEq, Repr

/-- The eight modes of an 8-bit source operand: an immediate byte or a byte of memory (R146, R180). -/
inductive Operand where
  | imm (ii : Byte)
  | mem (addr : Addr)
  deriving DecidableEq, Repr

/-- The four memory modes of the read-modify-write group, `TST`, `CLR` and `DBNZ` (R163, R220). -/
inductive RmwAddr where
  | dir (dd : Byte)
  | ix1 (ff : Byte)
  | ix
  | sp1 (ff : Byte)
  deriving DecidableEq, Repr

/-- The five modes of `JMP` and `JSR` (R161). -/
inductive JumpAddr where
  | dir (dd : Byte)
  | ext (hhll : Word)
  | ix2 (eeff : Word)
  | ix1 (ff : Byte)
  | ix
  deriving DecidableEq, Repr

/-- A mode of the read-modify-write group, as one of the seven memory modes. -/
def RmwAddr.addr : RmwAddr → Addr
  | .dir dd => .dir dd
  | .ix1 ff => .ix1 ff
  | .ix => .ix
  | .sp1 ff => .sp1 ff

/-- A mode of a jump, as one of the seven memory modes. -/
def JumpAddr.addr : JumpAddr → Addr
  | .dir dd => .dir dd
  | .ext hhll => .ext hhll
  | .ix2 eeff => .ix2 eeff
  | .ix1 ff => .ix1 ff
  | .ix => .ix

end Sys2Proof
end

