-- ==== Sys2Proof/Decode.lean ====
section
/-!
DEFINITION. The encoding of instructions (30_encoding.md): the decoder, the opcode map it looks bytes
up in, column by column as Table 4-11 prints it (R110), and the encoder. The decoder is total on
any list of bytes and says why it refuses one.
-/

namespace Sys2Proof

/-- The 16-bit value of two bytes, the most significant byte first (20_memory.md R63, R65). -/
def wordOf (hi lo : Byte) : Word := hi ++ lo

/-- The most significant byte of a 16-bit value. -/
def hiByte (w : Word) : Byte := w.extractLsb' 8 8

/-- The least significant byte of a 16-bit value. -/
def loByte (w : Word) : Byte := w.extractLsb' 0 8

/-- What a cell of the opcode map says follows the opcode: nothing, one operand byte, two operand
bytes with separate meanings, or two operand bytes that are one 16-bit value, high byte first
(30_encoding.md R101, R105). -/
inductive Form where
  | inherent (i : Instr)
  | oneByte (make : Byte → Instr)
  | twoBytes (make : Byte → Byte → Instr)
  | oneWord (make : Word → Instr)

/-- Why a list of bytes is not an instruction. -/
inductive DecodeError where
  /-- The first byte is one of the six empty cells of page 1 (30_encoding.md R112). -/
  | unassigned (opcode : Byte)
  /-- The pre-byte `$9E` is followed by a byte with no cell on its page (R112). -/
  | unassignedAfterPrebyte (opcode : Byte)
  /-- The list ends inside an instruction. -/
  | truncated
  deriving DecidableEq, Repr

/-- The pre-byte of the stack-pointer-relative instructions (30_encoding.md R104). -/
def prebyte : Byte := 0x9E

/-! ### Page 1 of the opcode map, a column for each high nibble, the cells by low nibble (R106 to R111) -/

/-- Column `$0x`: bit test and branch (R106). -/
def column0 : List (Option Form) :=
  [some (.twoBytes .brset0),
   some (.twoBytes .brclr0),
   some (.twoBytes .brset1),
   some (.twoBytes .brclr1),
   some (.twoBytes .brset2),
   some (.twoBytes .brclr2),
   some (.twoBytes .brset3),
   some (.twoBytes .brclr3),
   some (.twoBytes .brset4),
   some (.twoBytes .brclr4),
   some (.twoBytes .brset5),
   some (.twoBytes .brclr5),
   some (.twoBytes .brset6),
   some (.twoBytes .brclr6),
   some (.twoBytes .brset7),
   some (.twoBytes .brclr7)]

/-- Column `$1x`: bit set and clear (R106). -/
def column1 : List (Option Form) :=
  [some (.oneByte .bset0),
   some (.oneByte .bclr0),
   some (.oneByte .bset1),
   some (.oneByte .bclr1),
   some (.oneByte .bset2),
   some (.oneByte .bclr2),
   some (.oneByte .bset3),
   some (.oneByte .bclr3),
   some (.oneByte .bset4),
   some (.oneByte .bclr4),
   some (.oneByte .bset5),
   some (.oneByte .bclr5),
   some (.oneByte .bset6),
   some (.oneByte .bclr6),
   some (.oneByte .bset7),
   some (.oneByte .bclr7)]

/-- Column `$2x`: branches (R107). -/
def column2 : List (Option Form) :=
  [some (.oneByte .bra),
   some (.oneByte .brn),
   some (.oneByte .bhi),
   some (.oneByte .bls),
   some (.oneByte .bcc),
   some (.oneByte .bcs),
   some (.oneByte .bne),
   some (.oneByte .beq),
   some (.oneByte .bhcc),
   some (.oneByte .bhcs),
   some (.oneByte .bpl),
   some (.oneByte .bmi),
   some (.oneByte .bmc),
   some (.oneByte .bms),
   some (.oneByte .bil),
   some (.oneByte .bih)]

/-- Column `$3x`: read-modify-write, direct (R108). -/
def column3 : List (Option Form) :=
  [some (.oneByte .negDir),
   some (.twoBytes .cbeqDir),
   none,
   some (.oneByte .comDir),
   some (.oneByte .lsrDir),
   some (.oneByte .sthx),
   some (.oneByte .rorDir),
   some (.oneByte .asrDir),
   some (.oneByte .lslDir),
   some (.oneByte .rolDir),
   some (.oneByte .decDir),
   some (.twoBytes .dbnzDir),
   some (.oneByte .incDir),
   some (.oneByte .tstDir),
   none,
   some (.oneByte .clrDir)]

/-- Column `$4x`: read-modify-write, inherent on `A` (R108). -/
def column4 : List (Option Form) :=
  [some (.inherent .nega),
   some (.twoBytes .cbeqa),
   some (.inherent .mul),
   some (.inherent .coma),
   some (.inherent .lsra),
   some (.oneWord .ldhxImm),
   some (.inherent .rora),
   some (.inherent .asra),
   some (.inherent .lsla),
   some (.inherent .rola),
   some (.inherent .deca),
   some (.oneByte .dbnza),
   some (.inherent .inca),
   some (.inherent .tsta),
   some (.twoBytes .movDirDir),
   some (.inherent .clra)]

/-- Column `$5x`: read-modify-write, inherent on `X` (R108). -/
def column5 : List (Option Form) :=
  [some (.inherent .negx),
   some (.twoBytes .cbeqx),
   some (.inherent .div),
   some (.inherent .comx),
   some (.inherent .lsrx),
   some (.oneByte .ldhxDir),
   some (.inherent .rorx),
   some (.inherent .asrx),
   some (.inherent .lslx),
   some (.inherent .rolx),
   some (.inherent .decx),
   some (.oneByte .dbnzx),
   some (.inherent .incx),
   some (.inherent .tstx),
   some (.oneByte .movDirIxInc),
   some (.inherent .clrx)]

/-- Column `$6x`: read-modify-write, indexed with 8-bit offset (R108). -/
def column6 : List (Option Form) :=
  [some (.oneByte .negIx1),
   some (.twoBytes .cbeqIx1Inc),
   some (.inherent .nsa),
   some (.oneByte .comIx1),
   some (.oneByte .lsrIx1),
   some (.oneWord .cphxImm),
   some (.oneByte .rorIx1),
   some (.oneByte .asrIx1),
   some (.oneByte .lslIx1),
   some (.oneByte .rolIx1),
   some (.oneByte .decIx1),
   some (.twoBytes .dbnzIx1),
   some (.oneByte .incIx1),
   some (.oneByte .tstIx1),
   some (.twoBytes .movImmDir),
   some (.oneByte .clrIx1)]

/-- Column `$7x`: read-modify-write, indexed (R108). -/
def column7 : List (Option Form) :=
  [some (.inherent .negIx),
   some (.oneByte .cbeqIxInc),
   some (.inherent .daa),
   some (.inherent .comIx),
   some (.inherent .lsrIx),
   some (.oneByte .cphxDir),
   some (.inherent .rorIx),
   some (.inherent .asrIx),
   some (.inherent .lslIx),
   some (.inherent .rolIx),
   some (.inherent .decIx),
   some (.oneByte .dbnzIx),
   some (.inherent .incIx),
   some (.inherent .tstIx),
   some (.oneByte .movIxIncDir),
   some (.inherent .clrIx)]

/-- Column `$8x`: control (R109). -/
def column8 : List (Option Form) :=
  [some (.inherent .rti),
   some (.inherent .rts),
   none,
   some (.inherent .swi),
   some (.inherent .tap),
   some (.inherent .tpa),
   some (.inherent .pula),
   some (.inherent .psha),
   some (.inherent .pulx),
   some (.inherent .pshx),
   some (.inherent .pulh),
   some (.inherent .pshh),
   some (.inherent .clrh),
   none,
   some (.inherent .stop),
   some (.inherent .wait)]

/-- Column `$9x`: control and signed branches; `$9E` is the pre-byte (R104, R109). -/
def column9 : List (Option Form) :=
  [some (.oneByte .bge),
   some (.oneByte .blt),
   some (.oneByte .bgt),
   some (.oneByte .ble),
   some (.inherent .txs),
   some (.inherent .tsx),
   none,
   some (.inherent .tax),
   some (.inherent .clc),
   some (.inherent .sec),
   some (.inherent .cli),
   some (.inherent .sei),
   some (.inherent .rsp),
   some (.inherent .nop),
   none,
   some (.inherent .txa)]

/-- Column `$Ax`: register/memory, immediate (R111). -/
def columnA : List (Option Form) :=
  [some (.oneByte .subImm),
   some (.oneByte .cmpImm),
   some (.oneByte .sbcImm),
   some (.oneByte .cpxImm),
   some (.oneByte .andImm),
   some (.oneByte .bitImm),
   some (.oneByte .ldaImm),
   some (.oneByte .ais),
   some (.oneByte .eorImm),
   some (.oneByte .adcImm),
   some (.oneByte .oraImm),
   some (.oneByte .addImm),
   none,
   some (.oneByte .bsr),
   some (.oneByte .ldxImm),
   some (.oneByte .aix)]

/-- Column `$Bx`: register/memory, direct (R111). -/
def columnB : List (Option Form) :=
  [some (.oneByte .subDir),
   some (.oneByte .cmpDir),
   some (.oneByte .sbcDir),
   some (.oneByte .cpxDir),
   some (.oneByte .andDir),
   some (.oneByte .bitDir),
   some (.oneByte .ldaDir),
   some (.oneByte .staDir),
   some (.oneByte .eorDir),
   some (.oneByte .adcDir),
   some (.oneByte .oraDir),
   some (.oneByte .addDir),
   some (.oneByte .jmpDir),
   some (.oneByte .jsrDir),
   some (.oneByte .ldxDir),
   some (.oneByte .stxDir)]

/-- Column `$Cx`: register/memory, extended (R111). -/
def columnC : List (Option Form) :=
  [some (.oneWord .subExt),
   some (.oneWord .cmpExt),
   some (.oneWord .sbcExt),
   some (.oneWord .cpxExt),
   some (.oneWord .andExt),
   some (.oneWord .bitExt),
   some (.oneWord .ldaExt),
   some (.oneWord .staExt),
   some (.oneWord .eorExt),
   some (.oneWord .adcExt),
   some (.oneWord .oraExt),
   some (.oneWord .addExt),
   some (.oneWord .jmpExt),
   some (.oneWord .jsrExt),
   some (.oneWord .ldxExt),
   some (.oneWord .stxExt)]

/-- Column `$Dx`: register/memory, indexed with 16-bit offset (R111). -/
def columnD : List (Option Form) :=
  [some (.oneWord .subIx2),
   some (.oneWord .cmpIx2),
   some (.oneWord .sbcIx2),
   some (.oneWord .cpxIx2),
   some (.oneWord .andIx2),
   some (.oneWord .bitIx2),
   some (.oneWord .ldaIx2),
   some (.oneWord .staIx2),
   some (.oneWord .eorIx2),
   some (.oneWord .adcIx2),
   some (.oneWord .oraIx2),
   some (.oneWord .addIx2),
   some (.oneWord .jmpIx2),
   some (.oneWord .jsrIx2),
   some (.oneWord .ldxIx2),
   some (.oneWord .stxIx2)]

/-- Column `$Ex`: register/memory, indexed with 8-bit offset (R111). -/
def columnE : List (Option Form) :=
  [some (.oneByte .subIx1),
   some (.oneByte .cmpIx1),
   some (.oneByte .sbcIx1),
   some (.oneByte .cpxIx1),
   some (.oneByte .andIx1),
   some (.oneByte .bitIx1),
   some (.oneByte .ldaIx1),
   some (.oneByte .staIx1),
   some (.oneByte .eorIx1),
   some (.oneByte .adcIx1),
   some (.oneByte .oraIx1),
   some (.oneByte .addIx1),
   some (.oneByte .jmpIx1),
   some (.oneByte .jsrIx1),
   some (.oneByte .ldxIx1),
   some (.oneByte .stxIx1)]

/-- Column `$Fx`: register/memory, indexed (R111). -/
def columnF : List (Option Form) :=
  [some (.inherent .subIx),
   some (.inherent .cmpIx),
   some (.inherent .sbcIx),
   some (.inherent .cpxIx),
   some (.inherent .andIx),
   some (.inherent .bitIx),
   some (.inherent .ldaIx),
   some (.inherent .staIx),
   some (.inherent .eorIx),
   some (.inherent .adcIx),
   some (.inherent .oraIx),
   some (.inherent .addIx),
   some (.inherent .jmpIx),
   some (.inherent .jsrIx),
   some (.inherent .ldxIx),
   some (.inherent .stxIx)]

/-! ### The page after the pre-byte `$9E` (R108, R111) -/

/-- Column `$9E $6x`: read-modify-write, stack pointer with 8-bit offset. -/
def prebyteColumn6 : List (Option Form) :=
  [some (.oneByte .negSp1),
   some (.twoBytes .cbeqSp1),
   none,
   some (.oneByte .comSp1),
   some (.oneByte .lsrSp1),
   none,
   some (.oneByte .rorSp1),
   some (.oneByte .asrSp1),
   some (.oneByte .lslSp1),
   some (.oneByte .rolSp1),
   some (.oneByte .decSp1),
   some (.twoBytes .dbnzSp1),
   some (.oneByte .incSp1),
   some (.oneByte .tstSp1),
   none,
   some (.oneByte .clrSp1)]

/-- Column `$9E $Dx`: register/memory, stack pointer with 16-bit offset. -/
def prebyteColumnD : List (Option Form) :=
  [some (.oneWord .subSp2),
   some (.oneWord .cmpSp2),
   some (.oneWord .sbcSp2),
   some (.oneWord .cpxSp2),
   some (.oneWord .andSp2),
   some (.oneWord .bitSp2),
   some (.oneWord .ldaSp2),
   some (.oneWord .staSp2),
   some (.oneWord .eorSp2),
   some (.oneWord .adcSp2),
   some (.oneWord .oraSp2),
   some (.oneWord .addSp2),
   none,
   none,
   some (.oneWord .ldxSp2),
   some (.oneWord .stxSp2)]

/-- Column `$9E $Ex`: register/memory, stack pointer with 8-bit offset. -/
def prebyteColumnE : List (Option Form) :=
  [some (.oneByte .subSp1),
   some (.oneByte .cmpSp1),
   some (.oneByte .sbcSp1),
   some (.oneByte .cpxSp1),
   some (.oneByte .andSp1),
   some (.oneByte .bitSp1),
   some (.oneByte .ldaSp1),
   some (.oneByte .staSp1),
   some (.oneByte .eorSp1),
   some (.oneByte .adcSp1),
   some (.oneByte .oraSp1),
   some (.oneByte .addSp1),
   none,
   none,
   some (.oneByte .ldxSp1),
   some (.oneByte .stxSp1)]

/-- The columns of page 1, by high nibble. -/
def pageOneColumns : List (List (Option Form)) :=
  [column0, column1, column2, column3, column4, column5, column6, column7,
   column8, column9, columnA, columnB, columnC, columnD, columnE, columnF]

/-- The columns of the `$9E` page, by high nibble: only three hold an instruction (R112). -/
def prebyteColumns : List (List (Option Form)) :=
  [[], [], [], [], [], [], prebyteColumn6, [], [], [], [], [], [], prebyteColumnD, prebyteColumnE, []]

/-- The cell of a page at an opcode byte, if it holds an instruction. -/
def cellAt (page : List (List (Option Form))) (op : Byte) : Option Form :=
  match page[op.toNat / 16]? with
  | none => none
  | some column =>
    match column[op.toNat % 16]? with
    | none => none
    | some cell => cell

/-- The instruction a first byte stands for; `none` for the pre-byte and the six empty cells. -/
def pageOne (op : Byte) : Option Form := cellAt pageOneColumns op

/-- The instruction a byte after the pre-byte stands for. -/
def prebytePage (op : Byte) : Option Form := cellAt prebyteColumns op

/-- The instruction of a cell with its operand bytes taken from a list, and what is left of it. -/
def Form.complete : Form → List Byte → Except DecodeError (Instr × List Byte)
  | .inherent i, bs => .ok (i, bs)
  | .oneByte make, b :: bs => .ok (make b, bs)
  | .twoBytes make, b :: c :: bs => .ok (make b c, bs)
  | .oneWord make, b :: c :: bs => .ok (make (wordOf b c), bs)
  | .oneByte _, [] => .error .truncated
  | .twoBytes _, [] => .error .truncated
  | .twoBytes _, [_] => .error .truncated
  | .oneWord _, [] => .error .truncated
  | .oneWord _, [_] => .error .truncated

/-- The decoder (30_encoding.md R102): the first instruction of a list of bytes and the bytes after
it, or why there is none. -/
def decode : List Byte → Except DecodeError (Instr × List Byte)
  | [] => .error .truncated
  | op :: bs =>
    if op = prebyte then
      match bs with
      | [] => .error .truncated
      | op2 :: rest =>
        match prebytePage op2 with
        | some form => form.complete rest
        | none => .error (.unassignedAfterPrebyte op2)
    else
      match pageOne op with
      | some form => form.complete bs
      | none => .error (.unassigned op)

/-- The bytes of an instruction, in address order (30_encoding.md R100, R101): the pre-byte if any,
the opcode of the instruction's own rule, the operand bytes. -/
def encode : Instr → List Byte
  | .brset0 dd rr => [0x00, dd, rr]
  | .brclr0 dd rr => [0x01, dd, rr]
  | .brset1 dd rr => [0x02, dd, rr]
  | .brclr1 dd rr => [0x03, dd, rr]
  | .brset2 dd rr => [0x04, dd, rr]
  | .brclr2 dd rr => [0x05, dd, rr]
  | .brset3 dd rr => [0x06, dd, rr]
  | .brclr3 dd rr => [0x07, dd, rr]
  | .brset4 dd rr => [0x08, dd, rr]
  | .brclr4 dd rr => [0x09, dd, rr]
  | .brset5 dd rr => [0x0A, dd, rr]
  | .brclr5 dd rr => [0x0B, dd, rr]
  | .brset6 dd rr => [0x0C, dd, rr]
  | .brclr6 dd rr => [0x0D, dd, rr]
  | .brset7 dd rr => [0x0E, dd, rr]
  | .brclr7 dd rr => [0x0F, dd, rr]
  | .bset0 dd => [0x10, dd]
  | .bclr0 dd => [0x11, dd]
  | .bset1 dd => [0x12, dd]
  | .bclr1 dd => [0x13, dd]
  | .bset2 dd => [0x14, dd]
  | .bclr2 dd => [0x15, dd]
  | .bset3 dd => [0x16, dd]
  | .bclr3 dd => [0x17, dd]
  | .bset4 dd => [0x18, dd]
  | .bclr4 dd => [0x19, dd]
  | .bset5 dd => [0x1A, dd]
  | .bclr5 dd => [0x1B, dd]
  | .bset6 dd => [0x1C, dd]
  | .bclr6 dd => [0x1D, dd]
  | .bset7 dd => [0x1E, dd]
  | .bclr7 dd => [0x1F, dd]
  | .bra rr => [0x20, rr]
  | .brn rr => [0x21, rr]
  | .bhi rr => [0x22, rr]
  | .bls rr => [0x23, rr]
  | .bcc rr => [0x24, rr]
  | .bcs rr => [0x25, rr]
  | .bne rr => [0x26, rr]
  | .beq rr => [0x27, rr]
  | .bhcc rr => [0x28, rr]
  | .bhcs rr => [0x29, rr]
  | .bpl rr => [0x2A, rr]
  | .bmi rr => [0x2B, rr]
  | .bmc rr => [0x2C, rr]
  | .bms rr => [0x2D, rr]
  | .bil rr => [0x2E, rr]
  | .bih rr => [0x2F, rr]
  | .negDir dd => [0x30, dd]
  | .cbeqDir dd rr => [0x31, dd, rr]
  | .comDir dd => [0x33, dd]
  | .lsrDir dd => [0x34, dd]
  | .sthx dd => [0x35, dd]
  | .rorDir dd => [0x36, dd]
  | .asrDir dd => [0x37, dd]
  | .lslDir dd => [0x38, dd]
  | .rolDir dd => [0x39, dd]
  | .decDir dd => [0x3A, dd]
  | .dbnzDir dd rr => [0x3B, dd, rr]
  | .incDir dd => [0x3C, dd]
  | .tstDir dd => [0x3D, dd]
  | .clrDir dd => [0x3F, dd]
  | .cbeqa ii rr => [0x41, ii, rr]
  | .ldhxImm jjkk => [0x45, hiByte jjkk, loByte jjkk]
  | .dbnza rr => [0x4B, rr]
  | .movDirDir src dst => [0x4E, src, dst]
  | .cbeqx ii rr => [0x51, ii, rr]
  | .ldhxDir dd => [0x55, dd]
  | .dbnzx rr => [0x5B, rr]
  | .movDirIxInc dd => [0x5E, dd]
  | .negIx1 ff => [0x60, ff]
  | .cbeqIx1Inc ff rr => [0x61, ff, rr]
  | .comIx1 ff => [0x63, ff]
  | .lsrIx1 ff => [0x64, ff]
  | .cphxImm jjkk => [0x65, hiByte jjkk, loByte jjkk]
  | .rorIx1 ff => [0x66, ff]
  | .asrIx1 ff => [0x67, ff]
  | .lslIx1 ff => [0x68, ff]
  | .rolIx1 ff => [0x69, ff]
  | .decIx1 ff => [0x6A, ff]
  | .dbnzIx1 ff rr => [0x6B, ff, rr]
  | .incIx1 ff => [0x6C, ff]
  | .tstIx1 ff => [0x6D, ff]
  | .movImmDir ii dd => [0x6E, ii, dd]
  | .clrIx1 ff => [0x6F, ff]
  | .cbeqIxInc rr => [0x71, rr]
  | .cphxDir dd => [0x75, dd]
  | .dbnzIx rr => [0x7B, rr]
  | .movIxIncDir dd => [0x7E, dd]
  | .bge rr => [0x90, rr]
  | .blt rr => [0x91, rr]
  | .bgt rr => [0x92, rr]
  | .ble rr => [0x93, rr]
  | .subImm ii => [0xA0, ii]
  | .cmpImm ii => [0xA1, ii]
  | .sbcImm ii => [0xA2, ii]
  | .cpxImm ii => [0xA3, ii]
  | .andImm ii => [0xA4, ii]
  | .bitImm ii => [0xA5, ii]
  | .ldaImm ii => [0xA6, ii]
  | .ais ii => [0xA7, ii]
  | .eorImm ii => [0xA8, ii]
  | .adcImm ii => [0xA9, ii]
  | .oraImm ii => [0xAA, ii]
  | .addImm ii => [0xAB, ii]
  | .bsr rr => [0xAD, rr]
  | .ldxImm ii => [0xAE, ii]
  | .aix ii => [0xAF, ii]
  | .subDir dd => [0xB0, dd]
  | .cmpDir dd => [0xB1, dd]
  | .sbcDir dd => [0xB2, dd]
  | .cpxDir dd => [0xB3, dd]
  | .andDir dd => [0xB4, dd]
  | .bitDir dd => [0xB5, dd]
  | .ldaDir dd => [0xB6, dd]
  | .staDir dd => [0xB7, dd]
  | .eorDir dd => [0xB8, dd]
  | .adcDir dd => [0xB9, dd]
  | .oraDir dd => [0xBA, dd]
  | .addDir dd => [0xBB, dd]
  | .jmpDir dd => [0xBC, dd]
  | .jsrDir dd => [0xBD, dd]
  | .ldxDir dd => [0xBE, dd]
  | .stxDir dd => [0xBF, dd]
  | .subExt hhll => [0xC0, hiByte hhll, loByte hhll]
  | .cmpExt hhll => [0xC1, hiByte hhll, loByte hhll]
  | .sbcExt hhll => [0xC2, hiByte hhll, loByte hhll]
  | .cpxExt hhll => [0xC3, hiByte hhll, loByte hhll]
  | .andExt hhll => [0xC4, hiByte hhll, loByte hhll]
  | .bitExt hhll => [0xC5, hiByte hhll, loByte hhll]
  | .ldaExt hhll => [0xC6, hiByte hhll, loByte hhll]
  | .staExt hhll => [0xC7, hiByte hhll, loByte hhll]
  | .eorExt hhll => [0xC8, hiByte hhll, loByte hhll]
  | .adcExt hhll => [0xC9, hiByte hhll, loByte hhll]
  | .oraExt hhll => [0xCA, hiByte hhll, loByte hhll]
  | .addExt hhll => [0xCB, hiByte hhll, loByte hhll]
  | .jmpExt hhll => [0xCC, hiByte hhll, loByte hhll]
  | .jsrExt hhll => [0xCD, hiByte hhll, loByte hhll]
  | .ldxExt hhll => [0xCE, hiByte hhll, loByte hhll]
  | .stxExt hhll => [0xCF, hiByte hhll, loByte hhll]
  | .subIx2 eeff => [0xD0, hiByte eeff, loByte eeff]
  | .cmpIx2 eeff => [0xD1, hiByte eeff, loByte eeff]
  | .sbcIx2 eeff => [0xD2, hiByte eeff, loByte eeff]
  | .cpxIx2 eeff => [0xD3, hiByte eeff, loByte eeff]
  | .andIx2 eeff => [0xD4, hiByte eeff, loByte eeff]
  | .bitIx2 eeff => [0xD5, hiByte eeff, loByte eeff]
  | .ldaIx2 eeff => [0xD6, hiByte eeff, loByte eeff]
  | .staIx2 eeff => [0xD7, hiByte eeff, loByte eeff]
  | .eorIx2 eeff => [0xD8, hiByte eeff, loByte eeff]
  | .adcIx2 eeff => [0xD9, hiByte eeff, loByte eeff]
  | .oraIx2 eeff => [0xDA, hiByte eeff, loByte eeff]
  | .addIx2 eeff => [0xDB, hiByte eeff, loByte eeff]
  | .jmpIx2 eeff => [0xDC, hiByte eeff, loByte eeff]
  | .jsrIx2 eeff => [0xDD, hiByte eeff, loByte eeff]
  | .ldxIx2 eeff => [0xDE, hiByte eeff, loByte eeff]
  | .stxIx2 eeff => [0xDF, hiByte eeff, loByte eeff]
  | .subIx1 ff => [0xE0, ff]
  | .cmpIx1 ff => [0xE1, ff]
  | .sbcIx1 ff => [0xE2, ff]
  | .cpxIx1 ff => [0xE3, ff]
  | .andIx1 ff => [0xE4, ff]
  | .bitIx1 ff => [0xE5, ff]
  | .ldaIx1 ff => [0xE6, ff]
  | .staIx1 ff => [0xE7, ff]
  | .eorIx1 ff => [0xE8, ff]
  | .adcIx1 ff => [0xE9, ff]
  | .oraIx1 ff => [0xEA, ff]
  | .addIx1 ff => [0xEB, ff]
  | .jmpIx1 ff => [0xEC, ff]
  | .jsrIx1 ff => [0xED, ff]
  | .ldxIx1 ff => [0xEE, ff]
  | .stxIx1 ff => [0xEF, ff]
  | .negSp1 ff => [0x9E, 0x60, ff]
  | .cbeqSp1 ff rr => [0x9E, 0x61, ff, rr]
  | .comSp1 ff => [0x9E, 0x63, ff]
  | .lsrSp1 ff => [0x9E, 0x64, ff]
  | .rorSp1 ff => [0x9E, 0x66, ff]
  | .asrSp1 ff => [0x9E, 0x67, ff]
  | .lslSp1 ff => [0x9E, 0x68, ff]
  | .rolSp1 ff => [0x9E, 0x69, ff]
  | .decSp1 ff => [0x9E, 0x6A, ff]
  | .dbnzSp1 ff rr => [0x9E, 0x6B, ff, rr]
  | .incSp1 ff => [0x9E, 0x6C, ff]
  | .tstSp1 ff => [0x9E, 0x6D, ff]
  | .clrSp1 ff => [0x9E, 0x6F, ff]
  | .subSp2 eeff => [0x9E, 0xD0, hiByte eeff, loByte eeff]
  | .cmpSp2 eeff => [0x9E, 0xD1, hiByte eeff, loByte eeff]
  | .sbcSp2 eeff => [0x9E, 0xD2, hiByte eeff, loByte eeff]
  | .cpxSp2 eeff => [0x9E, 0xD3, hiByte eeff, loByte eeff]
  | .andSp2 eeff => [0x9E, 0xD4, hiByte eeff, loByte eeff]
  | .bitSp2 eeff => [0x9E, 0xD5, hiByte eeff, loByte eeff]
  | .ldaSp2 eeff => [0x9E, 0xD6, hiByte eeff, loByte eeff]
  | .staSp2 eeff => [0x9E, 0xD7, hiByte eeff, loByte eeff]
  | .eorSp2 eeff => [0x9E, 0xD8, hiByte eeff, loByte eeff]
  | .adcSp2 eeff => [0x9E, 0xD9, hiByte eeff, loByte eeff]
  | .oraSp2 eeff => [0x9E, 0xDA, hiByte eeff, loByte eeff]
  | .addSp2 eeff => [0x9E, 0xDB, hiByte eeff, loByte eeff]
  | .ldxSp2 eeff => [0x9E, 0xDE, hiByte eeff, loByte eeff]
  | .stxSp2 eeff => [0x9E, 0xDF, hiByte eeff, loByte eeff]
  | .subSp1 ff => [0x9E, 0xE0, ff]
  | .cmpSp1 ff => [0x9E, 0xE1, ff]
  | .sbcSp1 ff => [0x9E, 0xE2, ff]
  | .cpxSp1 ff => [0x9E, 0xE3, ff]
  | .andSp1 ff => [0x9E, 0xE4, ff]
  | .bitSp1 ff => [0x9E, 0xE5, ff]
  | .ldaSp1 ff => [0x9E, 0xE6, ff]
  | .staSp1 ff => [0x9E, 0xE7, ff]
  | .eorSp1 ff => [0x9E, 0xE8, ff]
  | .adcSp1 ff => [0x9E, 0xE9, ff]
  | .oraSp1 ff => [0x9E, 0xEA, ff]
  | .addSp1 ff => [0x9E, 0xEB, ff]
  | .ldxSp1 ff => [0x9E, 0xEE, ff]
  | .stxSp1 ff => [0x9E, 0xEF, ff]
  | .nega => [0x40]
  | .mul => [0x42]
  | .coma => [0x43]
  | .lsra => [0x44]
  | .rora => [0x46]
  | .asra => [0x47]
  | .lsla => [0x48]
  | .rola => [0x49]
  | .deca => [0x4A]
  | .inca => [0x4C]
  | .tsta => [0x4D]
  | .clra => [0x4F]
  | .negx => [0x50]
  | .div => [0x52]
  | .comx => [0x53]
  | .lsrx => [0x54]
  | .rorx => [0x56]
  | .asrx => [0x57]
  | .lslx => [0x58]
  | .rolx => [0x59]
  | .decx => [0x5A]
  | .incx => [0x5C]
  | .tstx => [0x5D]
  | .clrx => [0x5F]
  | .nsa => [0x62]
  | .negIx => [0x70]
  | .daa => [0x72]
  | .comIx => [0x73]
  | .lsrIx => [0x74]
  | .rorIx => [0x76]
  | .asrIx => [0x77]
  | .lslIx => [0x78]
  | .rolIx => [0x79]
  | .decIx => [0x7A]
  | .incIx => [0x7C]
  | .tstIx => [0x7D]
  | .clrIx => [0x7F]
  | .rti => [0x80]
  | .rts => [0x81]
  | .swi => [0x83]
  | .tap => [0x84]
  | .tpa => [0x85]
  | .pula => [0x86]
  | .psha => [0x87]
  | .pulx => [0x88]
  | .pshx => [0x89]
  | .pulh => [0x8A]
  | .pshh => [0x8B]
  | .clrh => [0x8C]
  | .stop => [0x8E]
  | .wait => [0x8F]
  | .txs => [0x94]
  | .tsx => [0x95]
  | .tax => [0x97]
  | .clc => [0x98]
  | .sec => [0x99]
  | .cli => [0x9A]
  | .sei => [0x9B]
  | .rsp => [0x9C]
  | .nop => [0x9D]
  | .txa => [0x9F]
  | .subIx => [0xF0]
  | .cmpIx => [0xF1]
  | .sbcIx => [0xF2]
  | .cpxIx => [0xF3]
  | .andIx => [0xF4]
  | .bitIx => [0xF5]
  | .ldaIx => [0xF6]
  | .staIx => [0xF7]
  | .eorIx => [0xF8]
  | .adcIx => [0xF9]
  | .oraIx => [0xFA]
  | .addIx => [0xFB]
  | .jmpIx => [0xFC]
  | .jsrIx => [0xFD]
  | .ldxIx => [0xFE]
  | .stxIx => [0xFF]

/-- The number of bytes of an instruction (30_encoding.md R101). -/
def Instr.length (i : Instr) : Nat := (encode i).length

/-- The bytes an instruction word of spec/opcode_table.json stands for, in address order, padded with
zero operand bytes to the longest instruction. The table numbers a two-byte opcode with the pre-byte
`$9E` as its HIGH byte (30_encoding.md R102); anything else has its first byte lowest. -/
def tableBytes (nbits w : Nat) : List Byte :=
  if nbits = 16 && w / 256 % 256 = 0x9E then
    [prebyte, BitVec.ofNat 8 w, 0, 0]
  else
    [BitVec.ofNat 8 w, BitVec.ofNat 8 (w / 256), BitVec.ofNat 8 (w / 65536), BitVec.ofNat 8 (w / 16777216)]

/-- The instruction the decoder reads from an instruction word of spec/opcode_table.json. -/
def decodeTableWord (nbits w : Nat) : Option Instr :=
  match decode (tableBytes nbits (w % 2 ^ nbits)) with
  | .ok (i, _) => some i
  | .error _ => none

end Sys2Proof
end

