-- ==== Sys2Proof/Machine/State.lean ====
section
/-!
DEFINITION. The state of the machine (10_state.md): the five CPU registers, the run state and the
other hidden values, memory, and, beside the CPU, the device it is in and the environment's side of
the interface (60_exceptions.md R520). Plain data throughout.
-/

namespace Sys2Proof.Machine

/-- The six stored bits of the condition code register (10_state.md R27, R28): bits 6 and 5 are
permanently 1 and are not stored. -/
structure Ccr where
  /-- Overflow, bit 7 (R29). -/
  v : Bool
  /-- Half carry, bit 4 (R30). -/
  h : Bool
  /-- Interrupt mask, bit 3 (R31). -/
  i : Bool
  /-- Negative, bit 2 (R32). -/
  n : Bool
  /-- Zero, bit 1 (R33). -/
  z : Bool
  /-- Carry/borrow, bit 0 (R34). -/
  c : Bool
  deriving DecidableEq, Repr

/-- The run state: the STOP and WAIT latches (10_state.md R42, R43). -/
inductive Run where
  | running
  | waiting
  | stopped
  deriving DecidableEq, Repr

/-- Memory: address and byte pairs in one canonical form, addresses strictly rising (`Memory.wf`). An
address that is not listed holds no value the machine knows: nothing has written it. -/
abbrev Memory := List Host.Cell

/-- Every listed address is at least `lo` and they rise strictly, inside the 64-Kbyte space. -/
def Memory.wfFrom : Nat → Memory → Bool
  | _, [] => true
  | lo, (k, _) :: m => decide (lo ≤ k) && decide (k < 65536) && Memory.wfFrom (k + 1) m

/-- The canonical form: addresses strictly rising, all of them 16-bit addresses (20_memory.md R38).
No entry can equal what an unlisted address reads as, because an unlisted address has no value but
the free one of that address (`State.byteAt` in Machine/Ops.lean). -/
def Memory.wf (m : Memory) : Bool := Memory.wfFrom 0 m

/-- A byte of RAM that the last instruction wrote: its address and what it held before
(70_reset_and_hazards.md R590). -/
structure Written where
  addr : Word
  old : Byte
  deriving DecidableEq, Repr

/-- The machine. -/
structure State where
  /-- Accumulator (R21). -/
  a : Byte
  /-- High byte of the index register (R22). -/
  h : Byte
  /-- Low byte of the index register (R22). -/
  x : Byte
  /-- Stack pointer: the next empty stack location (R24). -/
  sp : Word
  /-- Program counter: at a boundary the next opcode's address; while an instruction executes, the
  next instruction's (00_scope.md R13). -/
  pc : Word
  /-- Condition code register (R27). -/
  ccr : Ccr
  /-- STOP and WAIT latches (R43). -/
  run : Run
  /-- `i_window`: the mask before the last instruction, if that was a `CLI`, `SEI` or `TAP` that
  changed it (R47, 60_exceptions.md R513). -/
  iWindow : Option Bool
  /-- `MONITOR_MODE`: the operating mode latched at the last reset (R44). -/
  monitorMode : Bool
  /-- The bytes of RAM and of the ROM image (R38). -/
  mem : Memory
  /-- The device around the CPU (00_scope.md R7); no step changes it. -/
  device : Device
  /-- Environment: the request lines asserted now (R41, 60_exceptions.md R512). -/
  ireq : List Nat
  /-- Environment: the level of the external interrupt pin, `true` = high (R46). -/
  irqPin : Bool
  /-- Environment: the mode the pins select, latched by the next reset (60_exceptions.md R551). -/
  modePin : Bool
  /-- Environment: the reset event on its way, if any (60_exceptions.md R502). -/
  resetIn : Option ResetEvent
  /-- Environment: what it will present at the coming steps, the next one first; when the list is
  empty the levels stay as they are. -/
  inputs : List StepInput
  /-- Environment: the values it will supply to the coming I/O reads, the next one first; when the
  list is empty an I/O read is a free value (20_memory.md R78). -/
  ioIn : List Byte
  /-- Environment: the I/O accesses it has seen, the latest first (20_memory.md R78). -/
  ioLog : List IoEvent
  /-- Environment: the source of the last reset, which only the SIM records (60_exceptions.md R501). -/
  lastReset : ResetSource
  /-- The model's own: the RAM bytes the last instruction wrote, the first written first (R590). -/
  recent : List Written
  /-- The model's own: how many free values have been drawn. -/
  draws : Nat
  /-- The model's own: how many power-on resets the machine has been through while it ran, each of
  which left every byte of RAM with a new free value (70_reset_and_hazards.md R571). -/
  powerLosses : Nat
  deriving DecidableEq, Repr

/-- Why the machine stops with a fault: never. "No state is an error state: the CPU has no fault
state, no lock-up and no double-fault condition" (70_reset_and_hazards.md R605), so the type has no
constructor. -/
inductive Fault where
  deriving DecidableEq, Repr

/-- Why there is no meaning for what stands at the program counter. -/
inductive Refusal where
  /-- Raised by `step` when the decoder meets an unassigned opcode, whose bytes are listed, on a
  device that has no illegal-opcode reset: "the model refuses the program (no behaviour is defined)"
  (60_exceptions.md R505). Safe: the model has fewer runs than the chip. -/
  | illegalOpcode (bytes : List Byte)
  /-- Raised by an arm of `exec` whose instruction has no meaning yet; no arm does. Safe. -/
  | notModelled (mnemonic : String)
  deriving DecidableEq, Repr

/-- What executing an instruction answers. -/
abbrev Result := Host.Outcome State Fault Refusal

/-- A device with RAM everywhere, every reset source and every request line, whose line 0 ends stop
mode: the device of `State.reset` (DESIGN CHOICE, log entry 3). -/
def Device.allRam : Device where
  memMap := [{ range := { lo := 0, hi := 0xFFFF }, kind := .ram }]
  illegalAddr := []
  nIreq := 126
  stopWake := [0]
  resetSources :=
    [.externalPin, .powerOn, .cop, .lowVoltage, .illegalOpcode, .illegalAddress]

/-- The machine right after a power-on reset (10_state.md R45): `SP = $00FF`, `H = $00`, `I = 1`,
running, no window. What R45 calls indeterminate (`A`, `X`, the other five flags) is zero here, `PC`
(the contents of a reset vector nothing has written) is `$0100`, and the device, the pins and the
mode are one choice of many: DESIGN CHOICE, unsafe (log entries 2 and 3). The reset that `step`
performs draws every one of those values (`resetCpu`). -/
def State.reset : State where
  a := 0
  h := 0
  x := 0
  sp := 0x00FF
  pc := 0x0100
  ccr := { v := false, h := false, i := true, n := false, z := false, c := false }
  run := .running
  iWindow := none
  monitorMode := false
  mem := []
  device := Device.allRam
  ireq := []
  irqPin := true
  modePin := false
  resetIn := none
  inputs := []
  ioIn := []
  ioLog := []
  lastReset := .powerOn
  recent := []
  draws := 0
  powerLosses := 0

end Sys2Proof.Machine
end

