-- ==== Sys2Proof/Machine/Ops.lean ====
section
/-!
DEFINITION. The named operations of the machine over memory and registers: memory in canonical form,
the bus access every instruction is made of (20_memory.md R60 to R79), pushes and pulls
(47_stack_transfer.md R420, R421), taking an exception and returning from one (60_exceptions.md R530,
48_control_system.md R461, R462), and the reset (60_exceptions.md R503).
-/

namespace Sys2Proof.Machine

/-! ### Memory and the index register -/

/-- The byte listed at an address, if any. -/
def Memory.read : Memory → Nat → Option Byte
  | [], _ => none
  | (k, b) :: m, a => if a = k then some b else Memory.read m a

/-- Put a byte at an address: replace the entry that lists it, or insert one in its place. -/
def Memory.write : Memory → Nat → Byte → Memory
  | [], a, v => [(a, v)]
  | (k, b) :: m, a, v =>
    if a < k then (a, v) :: (k, b) :: m
    else if a = k then (a, v) :: m
    else (k, b) :: Memory.write m a v

/-- Forget the entries at the addresses that `lost` names. -/
def Memory.forget (lost : Nat → Bool) : Memory → Memory
  | [] => []
  | (k, b) :: m => if lost k then Memory.forget lost m else (k, b) :: Memory.forget lost m

/-- The address is in the range. -/
def AddrRange.holds (r : AddrRange) (a : Word) : Bool :=
  decide (r.lo ≤ a.toNat) && decide (a.toNat ≤ r.hi)

/-- What the memory map has at an address (20_memory.md R74, D1): the kind of the first region that
holds it. -/
def regionKind (d : Device) (a : Word) : MemKind :=
  match d.memMap.find? (fun r => AddrRange.holds r.range a) with
  | some r => r.kind
  | none => .unimplemented

/-- `HX`, the 16-bit index register (R22). -/
def State.hx (s : State) : Word := wordOf s.h s.x

/-- Write `HX` (R22). -/
def State.setHx (s : State) (w : Word) : State := { s with h := hiByte w, x := loByte w }

/-- What a location of RAM or ROM reads as: the byte listed, or, when nothing has put a byte there,
the free value of that location: for RAM the one drawn at the last power-on (20_memory.md R76). -/
def State.byteAt (s : State) (a : Word) : Byte :=
  match s.mem.read a.toNat with
  | some b => b
  | none =>
    if regionKind s.device a = .ram then Config.powerOnByte s.powerLosses a.toNat
    else Config.romByte a.toNat

/-! ### Free values -/

/-- Draw a byte: `x <- drawn` (00_scope.md R12). -/
def drawByte (s : State) : Byte × State :=
  (Config.freeByte s.draws, { s with draws := s.draws + 1 })

/-- Draw a bit: `x <- drawn` (00_scope.md R12). -/
def drawBit (s : State) : Bool × State :=
  (Config.freeBit s.draws, { s with draws := s.draws + 1 })

/-! ### Bus accesses -/

/-- What a sequence of bus accesses comes to: it completes with a value, or a reset cuts it short
after the accesses made so far (60_exceptions.md R502, R506). -/
inductive Bus (α : Type) where
  | ok (value : α) (s : State)
  | cut (source : ResetSource) (s : State)
  deriving DecidableEq, Repr

/-- One sequence of accesses after another; a reset in the first leaves the second undone. -/
def Bus.andThen {α β : Type} : Bus α → (α → State → Bus β) → Bus β
  | .ok v s, k => k v s
  | .cut source s, _ => .cut source s

/-- The address is in `ILLEGAL_ADDR` (20_memory.md R79, D3). -/
def isIllegal (d : Device) (a : Word) : Bool :=
  d.illegalAddr.any (fun r => AddrRange.holds r a)

/-- The start of a bus access: it does not happen if the reset under way falls here (60_exceptions.md
R502) or the address is illegal (R506); otherwise the reset under way is one access nearer. -/
def gate (a : Word) (s : State) : Bus Unit :=
  match s.resetIn with
  | some ⟨source, 0⟩ => .cut source s
  | some ⟨source, n + 1⟩ =>
    if isIllegal s.device a then .cut .illegalAddress s
    else .ok () { s with resetIn := some ⟨source, n⟩ }
  | none => if isIllegal s.device a then .cut .illegalAddress s else .ok () s

/-- The read of an I/O address: the environment's value at that moment, and the environment sees the
read (20_memory.md R78, D27). -/
def ioRead (a : Word) (s : State) : Byte × State :=
  match s.ioIn with
  | v :: rest => (v, { s with ioIn := rest, ioLog := .read a v :: s.ioLog })
  | [] =>
    (Config.freeByte s.draws,
      { s with draws := s.draws + 1, ioLog := .read a (Config.freeByte s.draws) :: s.ioLog })

/-- What a read of an address returns, by what stands there (20_memory.md R75 to R79). -/
def readCell (a : Word) (s : State) : Byte × State :=
  match regionKind s.device a with
  | .ram => (s.byteAt a, s)
  | .rom => (s.byteAt a, s)
  | .io => ioRead a s
  | .unimplemented => drawByte s

/-- What a write to an address does, by what stands there (20_memory.md R75, R77 to R79): RAM takes
the byte, and the write is remembered for the opcode fetch that follows the instruction
(70_reset_and_hazards.md R590); ROM and unimplemented addresses keep nothing; the environment sees
the write of an I/O address. -/
def writeCell (a : Word) (v : Byte) (s : State) : State :=
  match regionKind s.device a with
  | .ram =>
    { s with mem := s.mem.write a.toNat v, recent := s.recent ++ [{ addr := a, old := s.byteAt a }] }
  | .rom => s
  | .io => { s with ioLog := .write a v :: s.ioLog }
  | .unimplemented => s

/-- `MemRead(addr, 1)`: one bus read (00_scope.md R12, 20_memory.md R60). -/
def busRead (a : Word) (s : State) : Bus Byte :=
  (gate a s).andThen fun _ s => .ok (readCell a s).1 (readCell a s).2

/-- `MemWrite(addr, 1, v)`: one bus write (00_scope.md R12, 20_memory.md R60). -/
def busWrite (a : Word) (v : Byte) (s : State) : Bus Unit :=
  (gate a s).andThen fun _ s => .ok () (writeCell a v s)

/-- `MemRead(addr, 2)`: the byte at the address is the high one and is read first; the second address
wraps (20_memory.md R64, D9, D11). -/
def busRead16 (a : Word) (s : State) : Bus Word :=
  (busRead a s).andThen fun hi s =>
  (busRead (a + 1) s).andThen fun lo s =>
  .ok (wordOf hi lo) s

/-- `MemWrite(addr, 2, v)`: the high byte goes to the address, then the low byte to the next
(20_memory.md R64). -/
def busWrite16 (a : Word) (v : Word) (s : State) : Bus Unit :=
  (busWrite a (hiByte v) s).andThen fun _ s => busWrite (a + 1) (loByte v) s

/-! ### The stack -/

/-- `push8`: write at `SP`, then decrement it (47_stack_transfer.md R420). -/
def push8 (v : Byte) (s : State) : Bus Unit :=
  (busWrite s.sp v s).andThen fun _ s => .ok () { s with sp := s.sp - 1 }

/-- `pull8`: increment `SP`, then read at it (47_stack_transfer.md R421). -/
def pull8 (s : State) : Bus Byte :=
  busRead (s.sp + 1) { s with sp := s.sp + 1 }

/-- Push a return address: the low byte first, so that it stands big-endian (46_jump_subroutine.md
R400, 20_memory.md R63). -/
def pushWord (w : Word) (s : State) : Bus Unit :=
  (push8 (loByte w) s).andThen fun _ s => push8 (hiByte w) s

/-- Pull an address: the high byte first (46_jump_subroutine.md R404). -/
def pullWord (s : State) : Bus Word :=
  (pull8 s).andThen fun hi s =>
  (pull8 s).andThen fun lo s =>
  .ok (wordOf hi lo) s

/-! ### The condition code register as a byte -/

/-- `ccr_byte()`: `V 1 1 H I N Z C` (48_control_system.md R460, 10_state.md R27, R28). -/
def ccrByte (c : Ccr) : Byte :=
  BitVec.ofBool c.v ++ (3#2 ++ (BitVec.ofBool c.h ++ (BitVec.ofBool c.i ++
    (BitVec.ofBool c.n ++ (BitVec.ofBool c.z ++ BitVec.ofBool c.c)))))

/-- `load_ccr(b)`: bits 6 and 5 are ignored (48_control_system.md R460, D25). -/
def loadCcr (b : Byte) : Ccr where
  v := b.getLsbD 7
  h := b.getLsbD 4
  i := b.getLsbD 3
  n := b.getLsbD 2
  z := b.getLsbD 1
  c := b.getLsbD 0

/-! ### Exceptions -/

/-- Where the vector at a user-mode address is fetched from: in monitor mode address bit A8 is forced
to 0 (60_exceptions.md R508, D4). -/
def vectorAddress (monitorMode : Bool) (v : Word) : Word :=
  if monitorMode then v &&& 0xFEFF else v

/-- The user-mode address of the reset vector (60_exceptions.md R507). -/
def resetVector : Word := 0xFFFE

/-- The user-mode address of the `SWI` vector (60_exceptions.md R507). -/
def swiVector : Word := 0xFFFC

/-- The user-mode address of the vector of `IREQ[n]`: `$FFFA - 2n` (60_exceptions.md R507). -/
def ireqVector (n : Nat) : Word := 0xFFFA - BitVec.ofNat 16 (2 * n)

/-- Fetch a vector, high byte first, in the current operating mode (60_exceptions.md R507, R508). -/
def readVector (v : Word) (s : State) : Bus Word :=
  busRead16 (vectorAddress s.monitorMode v) s

/-- Taking an exception, the one sequence of `SWI` (48_control_system.md R461) and of a hardware
interrupt (60_exceptions.md R530): `PC`, `X`, `A` and the CCR are stacked, `PC` low byte first; then
`I` is set; then the vector is loaded. `H` is not stacked (R533). -/
def takeException (vector : Word) (s : State) : Bus Unit :=
  (pushWord s.pc s).andThen fun _ s =>
  (push8 s.x s).andThen fun _ s =>
  (push8 s.a s).andThen fun _ s =>
  (push8 (ccrByte s.ccr) s).andThen fun _ s =>
  (readVector vector { s with ccr := { s.ccr with i := true }, iWindow := none }).andThen fun v s =>
  .ok () { s with pc := v }

/-- Returning from an exception (48_control_system.md R462): the CCR, `A`, `X` and `PC` are pulled in
the reverse order; `H` is not restored. -/
def returnFromException (s : State) : Bus Unit :=
  (pull8 s).andThen fun c s =>
  (pull8 { s with ccr := loadCcr c }).andThen fun a s =>
  (pull8 { s with a := a }).andThen fun x s =>
  (pullWord { s with x := x }).andThen fun v s =>
  .ok () { s with pc := v }

/-- RAM after a loss of power: every byte of it is a new free value; ROM keeps its content (20_memory.md
R76, R77). -/
def losePower (s : State) : State :=
  { s with
    mem := s.mem.forget (fun k => decide (regionKind s.device (BitVec.ofNat 16 k) = .ram))
    powerLosses := s.powerLosses + 1 }

/-- The memory a reset leaves: all of it, and after a power-on reset what is not RAM ("the one thing
that differs between a power-on reset and the others", 70_reset_and_hazards.md R571). -/
def memoryAfterReset (source : ResetSource) (s : State) : State :=
  if source = .powerOn then losePower s else s

/-- What a reset forces and draws before it fetches the vector (60_exceptions.md R503): the registers
called indeterminate are fresh free values (10_state.md R45, D19) and the operating mode is latched
from the pins (R551). DESIGN CHOICE, log entry 19: an environment's reset event still on its way when
another reset (an illegal opcode, an illegal address) comes first is dropped with it. -/
def forceResetState (source : ResetSource) (s : State) : State :=
  { s with
    monitorMode := s.modePin
    sp := 0x00FF
    h := 0
    a := Config.freeByte s.draws
    x := Config.freeByte (s.draws + 1)
    ccr :=
      { v := Config.freeBit (s.draws + 2)
        h := Config.freeBit (s.draws + 3)
        i := true
        n := Config.freeBit (s.draws + 4)
        z := Config.freeBit (s.draws + 5)
        c := Config.freeBit (s.draws + 6) }
    draws := s.draws + 7
    run := .running
    iWindow := none
    resetIn := none
    recent := []
    lastReset := source }

/-- The end of reset processing: `PC` takes the vector. A vector fetch that reads an illegal address
resets the machine again, at once and for as long as it does (60_exceptions.md R503, R506): that
reset is due at the next step, which performs it whatever the environment presents (`nextReset`), so
nothing executes at the `PC` that no vector was loaded into (log entry 29). -/
def endReset (vector : Bus Word) : State :=
  match vector with
  | .ok v s => { s with pc := v }
  | .cut again s => { s with resetIn := some { source := again, after := 0 } }

/-- Reset processing (60_exceptions.md R503): nothing is stacked, and the vector is fetched. -/
def resetCpu (source : ResetSource) (s : State) : State :=
  endReset (readVector resetVector (forceResetState source (memoryAfterReset source s)))

/-- The end of an instruction or of an interrupt entry: the state it completes in, or the reset that
cut it short (60_exceptions.md R502, R506). -/
def finish (b : Bus Unit) : Result :=
  match b with
  | .ok _ s => .next s
  | .cut source s => .next (resetCpu source s)

end Sys2Proof.Machine
end

