-- ==== Sys2Proof/Machine/Flags.lean ====
section
/-!
DEFINITION. Every flag computation of the spec: the arithmetic helpers of 42_arithmetic.md R220, `N`
and `Z` of a result (00_scope.md R12), the one-operand functions of the read-modify-write group (R228
to R231, 43_logic_bit.md R285, 44_shift_rotate.md R321 to R325), and the decimal adjust table
(42_arithmetic.md R260). Arithmetic is exact, on natural numbers, and truncated at the end. A flag a
rule does not assign keeps its value (R12).
-/

namespace Sys2Proof.Machine

/-- Bit 7 of a byte. -/
def bit7 (b : Byte) : Bool := b.getLsbD 7

/-- Bit 0 of a byte. -/
def bit0 (b : Byte) : Bool := b.getLsbD 0

/-- Bit 15 of a word. -/
def bit15 (w : Word) : Bool := w.getLsbD 15

/-- `CCR.V <- 0; setNZ8(r)`: the flags of loads, stores, moves, tests and logic (41_load_store_move.md
R180, 43_logic_bit.md R280). -/
def moveFlags (c : Ccr) (r : Byte) : Ccr :=
  { c with v := false, n := bit7 r, z := decide (r = 0) }

/-- `CCR.V <- 0; setNZ16(r)`: the flags of `LDHX` and `STHX` (41_load_store_move.md R183, R186). -/
def moveFlags16 (c : Ccr) (r : Word) : Ccr :=
  { c with v := false, n := bit15 r, z := decide (r = 0) }

/-- `CCR.V <- 0; CCR.N <- 0; CCR.Z <- 1`: the flags of `CLR` (41_load_store_move.md R192). -/
def clearFlags (c : Ccr) : Ccr :=
  { c with v := false, n := false, z := true }

/-- `add8(a, m, cin)` (42_arithmetic.md R220): the sum and `V`, `H`, `N`, `Z`, `C`. -/
def add8 (c : Ccr) (a m : Byte) (carryIn : Bool) : Byte × Ccr :=
  let sum := a.toNat + m.toNat + carryIn.toNat
  let r := BitVec.ofNat 8 sum
  (r, { c with
    v := decide (bit7 a = bit7 m) && decide (bit7 r ≠ bit7 a)
    h := decide (a.toNat % 16 + m.toNat % 16 + carryIn.toNat > 15)
    n := bit7 r
    z := decide (r = 0)
    c := decide (sum > 255) })

/-- `sub8(a, m, bin)` (42_arithmetic.md R220): the difference and `V`, `N`, `Z`, `C`; a subtraction
never changes the half carry. -/
def sub8 (c : Ccr) (a m : Byte) (borrowIn : Bool) : Byte × Ccr :=
  let r := BitVec.ofInt 8 ((a.toNat : Int) - m.toNat - borrowIn.toNat)
  (r, { c with
    v := decide (bit7 a ≠ bit7 m) && decide (bit7 r ≠ bit7 a)
    n := bit7 r
    z := decide (r = 0)
    c := decide (m.toNat + borrowIn.toNat > a.toNat) })

/-- `sub16(a, m)` (42_arithmetic.md R220), whose difference only sets flags: `V`, `N`, `Z`, `C`. -/
def sub16 (c : Ccr) (a m : Word) : Ccr :=
  let r := BitVec.ofInt 16 ((a.toNat : Int) - m.toNat)
  { c with
    v := decide (bit15 a ≠ bit15 m) && decide (bit15 r ≠ bit15 a)
    n := bit15 r
    z := decide (r = 0)
    c := decide (m.toNat > a.toNat) }

/-- `INC` (42_arithmetic.md R228). -/
def increment (v : Byte) (c : Ccr) : Byte × Ccr :=
  let r := v + 1
  (r, { c with v := decide (v = 0x7F), n := bit7 r, z := decide (r = 0) })

/-- `DEC` (42_arithmetic.md R229). -/
def decrement (v : Byte) (c : Ccr) : Byte × Ccr :=
  let r := v - 1
  (r, { c with v := decide (v = 0x80), n := bit7 r, z := decide (r = 0) })

/-- `NEG` (42_arithmetic.md R230). -/
def negate (v : Byte) (c : Ccr) : Byte × Ccr :=
  let r := 0 - v
  (r, { c with
    v := decide (v = 0x80), n := bit7 r, z := decide (r = 0), c := decide (v ≠ 0) })

/-- `COM` (43_logic_bit.md R285). -/
def complement (v : Byte) (c : Ccr) : Byte × Ccr :=
  let r := 0xFF - v
  (r, { moveFlags c r with c := true })

/-- The flags of a shift or rotate with result `r` and bit shifted out `out`: `C` is that bit and
`V <- N xor C` (44_shift_rotate.md R320). -/
def shiftFlags (c : Ccr) (r : Byte) (out : Bool) : Ccr :=
  { c with v := bit7 r ^^ out, n := bit7 r, z := decide (r = 0), c := out }

/-- `ASL`/`LSL` (44_shift_rotate.md R321). -/
def shiftLeft (v : Byte) (c : Ccr) : Byte × Ccr :=
  let r := v <<< 1
  (r, shiftFlags c r (bit7 v))

/-- `ASR` (44_shift_rotate.md R322): bit 7 keeps its value. -/
def arithmeticShiftRight (v : Byte) (c : Ccr) : Byte × Ccr :=
  let r := (v >>> 1) ||| (v &&& 0x80)
  (r, shiftFlags c r (bit0 v))

/-- `LSR` (44_shift_rotate.md R323). -/
def logicalShiftRight (v : Byte) (c : Ccr) : Byte × Ccr :=
  let r := v >>> 1
  (r, shiftFlags c r (bit0 v))

/-- `ROL` (44_shift_rotate.md R324): the old carry enters bit 0. -/
def rotateLeft (v : Byte) (c : Ccr) : Byte × Ccr :=
  let r := (v <<< 1) ||| (if c.c then 1 else 0)
  (r, shiftFlags c r (bit7 v))

/-- `ROR` (44_shift_rotate.md R325): the old carry enters bit 7. -/
def rotateRight (v : Byte) (c : Ccr) : Byte × Ccr :=
  let r := (v >>> 1) ||| (if c.c then 0x80 else 0)
  (r, shiftFlags c r (bit0 v))

/-- One row of Table 5-2 (42_arithmetic.md R260): the carry before, the range of `A[7:4]`, the half
carry, the range of `A[3:0]`; the correction factor and the carry after. -/
structure DaaRow where
  carry : Bool
  highFrom : Nat
  highTo : Nat
  half : Bool
  lowFrom : Nat
  lowTo : Nat
  factor : Byte
  carryOut : Bool
  deriving DecidableEq, Repr

/-- Table 5-2, DAA Function Summary (42_arithmetic.md R260), in its order. -/
def daaTable : List DaaRow :=
  [⟨false, 0x0, 0x9, false, 0x0, 0x9, 0x00, false⟩,
   ⟨false, 0x0, 0x8, false, 0xA, 0xF, 0x06, false⟩,
   ⟨false, 0x0, 0x9, true, 0x0, 0x3, 0x06, false⟩,
   ⟨false, 0xA, 0xF, false, 0x0, 0x9, 0x60, true⟩,
   ⟨false, 0x9, 0xF, false, 0xA, 0xF, 0x66, true⟩,
   ⟨false, 0xA, 0xF, true, 0x0, 0x3, 0x66, true⟩,
   ⟨true, 0x0, 0x2, false, 0x0, 0x9, 0x60, true⟩,
   ⟨true, 0x0, 0x2, false, 0xA, 0xF, 0x66, true⟩,
   ⟨true, 0x0, 0x3, true, 0x0, 0x3, 0x66, true⟩]

/-- A state of carry, accumulator and half carry matches a row. -/
def daaMatches (carry : Bool) (a : Byte) (half : Bool) (row : DaaRow) : Bool :=
  decide (row.carry = carry) && decide (row.half = half)
    && decide (row.highFrom ≤ a.toNat / 16) && decide (a.toNat / 16 ≤ row.highTo)
    && decide (row.lowFrom ≤ a.toNat % 16) && decide (a.toNat % 16 ≤ row.lowTo)

/-- The row of Table 5-2 that a state matches, if any; the rows are disjoint (42_arithmetic.md R260). -/
def daaRow (carry : Bool) (a : Byte) (half : Bool) : Option DaaRow :=
  daaTable.find? (daaMatches carry a half)

end Sys2Proof.Machine
end

