-- ==== Sys2Proof/Machine/Operands.lean ====
section
/-!
DEFINITION. The addressing modes (40_addressing_modes.md) and the shapes of access that families of
instructions share: read an operand, store a byte, read-modify-write (42_arithmetic.md R220), test,
branch. All bytes of the instruction have been fetched, so `PC` is the next instruction's address and
every effective address is computed from the registers at the start of the instruction (R142).
-/

namespace Sys2Proof.Machine

/-- `zext_16` (00_scope.md R12). -/
def zext16 (b : Byte) : Word := b.setWidth 16

/-- `sext_16` (00_scope.md R12). -/
def sext16 (b : Byte) : Word := b.signExtend 16

/-- The effective address of a memory mode, modulo 2^16 (40_addressing_modes.md R141, R143, R144, R147
to R149, R151, R152). -/
def effectiveAddress (m : Addr) (s : State) : Word :=
  match m with
  | .dir dd => zext16 dd
  | .ext hhll => hhll
  | .ix2 eeff => s.hx + eeff
  | .ix1 ff => s.hx + zext16 ff
  | .ix => s.hx
  | .sp2 eeff => s.sp + eeff
  | .sp1 ff => s.sp + zext16 ff

/-- `read_operand8(mode)` (41_load_store_move.md R180): an immediate byte stands in the instruction, so
reading it is no access here. -/
def readOperand (op : Operand) (s : State) : Bus Byte :=
  match op with
  | .imm ii => .ok ii s
  | .mem m => busRead (effectiveAddress m s) s

/-- `post_inc()`: `HX` as a 16-bit value (40_addressing_modes.md R153). -/
def postInc (s : State) : State := s.setHx (s.hx + 1)

/-- `target(rel)`: the signed offset from the next instruction's address (40_addressing_modes.md R150,
45_branch.md R350). -/
def target (s : State) (rr : Byte) : Word := s.pc + sext16 rr

/-- Branch if a condition holds; else go on with the next instruction (45_branch.md R350). -/
def branchIf (condition : Bool) (rr : Byte) (s : State) : State :=
  if condition then { s with pc := target s rr } else s

/-- Replace the accumulator and the CCR by a function of the accumulator, the operand and the CCR: the
register/memory group on `A` (41_load_store_move.md R180). -/
def accumulate (f : Byte → Byte → Ccr → Byte × Ccr) (op : Operand) (s : State) : Result :=
  finish <| (readOperand op s).andThen fun m s =>
    .ok () { s with a := (f s.a m s.ccr).1, ccr := (f s.a m s.ccr).2 }

/-- Set the CCR from a register and the operand, and nothing else: the compares and `BIT`. -/
def compareWith (register : State → Byte) (f : Byte → Byte → Ccr → Ccr) (op : Operand) (s : State) :
    Result :=
  finish <| (readOperand op s).andThen fun m s =>
    .ok () { s with ccr := f (register s) m s.ccr }

/-- A byte function applied to `A`: the `INH` forms on `A` of the read-modify-write group
(42_arithmetic.md R220). -/
def modifyA (f : Byte → Ccr → Byte × Ccr) (s : State) : Result :=
  .next { s with a := (f s.a s.ccr).1, ccr := (f s.a s.ccr).2 }

/-- A byte function applied to `X`; `H` never changes (42_arithmetic.md R220). -/
def modifyX (f : Byte → Ccr → Byte × Ccr) (s : State) : Result :=
  .next { s with x := (f s.x s.ccr).1, ccr := (f s.x s.ccr).2 }

/-- A byte function applied to a memory byte: exactly one read and then one write of the same address,
the write even if the value is unchanged (20_memory.md R68, 42_arithmetic.md R220, D16). -/
def modifyMemory (f : Byte → Ccr → Byte × Ccr) (m : Addr) (s : State) : Result :=
  finish <| (busRead (effectiveAddress m s) s).andThen fun v s' =>
    (busWrite (effectiveAddress m s) (f v s'.ccr).1 s').andThen fun _ s'' =>
    .ok () { s'' with ccr := (f v s'.ccr).2 }

/-- Store a byte with the flags of a move; the destination is not read (41_load_store_move.md R180,
R184). -/
def storeByte (m : Addr) (v : Byte) (s : State) : Result :=
  finish <| (busWrite (effectiveAddress m s) v s).andThen fun _ s =>
    .ok () { s with ccr := moveFlags s.ccr v }

end Sys2Proof.Machine
end

