-- ==== Sys2Proof/WellFormed.lean ====
section
/-!
DEFINITION. The checks on what is given to the machine from outside: a device description
(00_scope.md R7) and an input of the environment (60_exceptions.md R520). The step does not need
them: they say which descriptions and inputs the spec calls a device and an environment of it.
-/

namespace Sys2Proof

/-- Every instruction is well formed: "every value `$00` to `$FF` of every operand byte is legal"
(30_encoding.md R113), and the operand types hold nothing else. -/
def Instr.wf (_ : Instr) : Bool := true

/-- A range lies in the 64-Kbyte space and is not empty (20_memory.md R38). -/
def AddrRange.wf (r : AddrRange) : Bool :=
  decide (r.lo ≤ r.hi) && decide (r.hi ≤ 0xFFFF)

/-- The sources whose resets the environment raises; the other two are raised by the CPU's own
accesses and opcodes (60_exceptions.md R501, R505, R506). -/
def ResetSource.isAsynchronous : ResetSource → Bool
  | .externalPin | .powerOn | .cop | .lowVoltage => true
  | .illegalOpcode | .illegalAddress => false

/-- A device description the spec admits: ranges inside the address space, at most 126 request
lines (D5), stop mode ended only by lines that exist (D8), and no illegal address unless the device
has that reset source (D3, D7). -/
def Device.wf (d : Device) : Bool :=
  d.memMap.all (fun r => r.range.wf)
    && d.illegalAddr.all AddrRange.wf
    && decide (d.nIreq ≤ 126)
    && d.stopWake.all (fun n => decide (n < d.nIreq))
    && (d.illegalAddr.isEmpty || d.resetSources.contains .illegalAddress)

/-- An input the device can be given: requests on lines that exist (D5), and a reset event only of
an asynchronous source the device has (R501, D7). -/
def StepInput.wf (d : Device) (e : StepInput) : Bool :=
  e.ireq.all (fun n => decide (n < d.nIreq))
    && (match e.reset with
        | none => true
        | some r => r.source.isAsynchronous && d.resetSources.contains r.source)

end Sys2Proof
end

