-- ==== Sys2Proof/Machine/Boundary.lean ====
section
/-!
DEFINITION. What happens at an instruction boundary (60_exceptions.md R510): the environment's input,
the recognition and arbitration of interrupt requests (R512, R513, R521), interrupt entry (R530) and
the wake from the low-power states (R540, R541).
-/

namespace Sys2Proof.Machine

/-- A reset event the device can be given: an asynchronous source that it has (60_exceptions.md R501,
D7). -/
def deliverable (d : Device) (e : ResetEvent) : Bool :=
  e.source.isAsynchronous && d.resetSources.contains e.source

/-- A new reset event beside the one under way. A reset that is due is never put off: every reset has
"equal and highest priority" (R501) and the reset of an illegal vector fetch comes again "for ever"
(R503). DESIGN CHOICE, log entry 4: two resets due at one boundary are one reset, with the new one's
source unless the other is a loss of power; a new event that is not due is dropped beside one that is,
and takes the place of one that is not. -/
def nextReset (underWay : Option ResetEvent) (new : ResetEvent) : Option ResetEvent :=
  match underWay with
  | some ⟨.powerOn, 0⟩ => underWay
  | some ⟨_, 0⟩ => if new.after = 0 then some new else underWay
  | _ => some new

/-- The reset event under way after the environment's input. -/
def resetAfterInput (s : State) (e : StepInput) : Option ResetEvent :=
  match e.reset with
  | none => s.resetIn
  | some r => if deliverable s.device r then nextReset s.resetIn r else s.resetIn

/-- Take the environment's input of this step: the levels it presents and the reset event it starts
(60_exceptions.md R520). With no input left everything stays as it is. -/
def takeInput (s : State) : State :=
  match s.inputs with
  | [] => s
  | e :: rest =>
    { s with
      inputs := rest
      ireq := e.ireq
      irqPin := e.irqPin
      modePin := e.modePin
      resetIn := resetAfterInput s e }

/-- The least number of a list: the request with the highest priority (60_exceptions.md R521). -/
def leastLine : List Nat → Option Nat
  | [] => none
  | n :: ns =>
    match leastLine ns with
    | none => some n
    | some m => some (if n ≤ m then n else m)

/-- The asserted line with the highest priority among the lines that exist (R521, D5). -/
def pendingLine (s : State) : Option Nat :=
  leastLine (s.ireq.filter (fun n => decide (n < s.device.nIreq)))

/-- The asserted line with the highest priority among those that end stop mode (R541, D8). -/
def wakingLine (s : State) : Option Nat :=
  leastLine (s.ireq.filter (fun n => s.device.stopWake.contains n))

/-- The mask `recognise()` uses: the `I` bit, or, in the window after a `CLI`, `SEI` or `TAP` that
changed it, a value drawn from the new and the old one (R513, D22). -/
def effectiveMask (s : State) : Bool :=
  match s.iWindow with
  | none => s.ccr.i
  | some old => if Config.freeBit s.draws then old else s.ccr.i

/-- The window is consumed at the boundary (R510, R513). -/
def closeWindow (s : State) : State :=
  match s.iWindow with
  | none => s
  | some _ => { s with iWindow := none, draws := s.draws + 1 }

/-- `recognise()` (R510): the request to service at this boundary, if any. -/
def recognise (s : State) : Option Nat :=
  if effectiveMask s then none else pendingLine s

/-- Interrupt entry for `IREQ[n]` (60_exceptions.md R530). -/
def interruptEntry (n : Nat) (s : State) : Bus Unit :=
  takeException (ireqVector n) { s with recent := [] }

/-- The end of a low-power state: run, and service the request at once; with no request nothing
changes (60_exceptions.md R540, R541, R543). -/
def wake (line : Option Nat) (s : State) : Result :=
  match line with
  | none => .next s
  | some n => finish (interruptEntry n { s with run := .running })

end Sys2Proof.Machine
end

