-- ==== Sys2Proof/Machine/Arithmetic.lean ====
section
/-!
DEFINITION. Arithmetic instructions (42_arithmetic.md R220 to R262).
-/

namespace Sys2Proof.Machine

/-- `ADD`, immediate (R221). -/
def execAddImm (ii : Byte) (s : State) : Result :=
  accumulate (fun a m c => add8 c a m false) (.imm ii) s

/-- `ADD`, direct (R221). -/
def execAddDir (dd : Byte) (s : State) : Result :=
  accumulate (fun a m c => add8 c a m false) (.mem (.dir dd)) s

/-- `ADD`, extended (R221). -/
def execAddExt (hhll : Word) (s : State) : Result :=
  accumulate (fun a m c => add8 c a m false) (.mem (.ext hhll)) s

/-- `ADD`, indexed, 16-bit offset (R221). -/
def execAddIx2 (eeff : Word) (s : State) : Result :=
  accumulate (fun a m c => add8 c a m false) (.mem (.ix2 eeff)) s

/-- `ADD`, indexed, 8-bit offset (R221). -/
def execAddIx1 (ff : Byte) (s : State) : Result :=
  accumulate (fun a m c => add8 c a m false) (.mem (.ix1 ff)) s

/-- `ADD`, indexed (R221). -/
def execAddIx (s : State) : Result := accumulate (fun a m c => add8 c a m false) (.mem .ix) s

/-- `ADD`, stack pointer, 16-bit offset (R221). -/
def execAddSp2 (eeff : Word) (s : State) : Result :=
  accumulate (fun a m c => add8 c a m false) (.mem (.sp2 eeff)) s

/-- `ADD`, stack pointer, 8-bit offset (R221). -/
def execAddSp1 (ff : Byte) (s : State) : Result :=
  accumulate (fun a m c => add8 c a m false) (.mem (.sp1 ff)) s

/-- `ADC`, immediate (R222). -/
def execAdcImm (ii : Byte) (s : State) : Result :=
  accumulate (fun a m c => add8 c a m c.c) (.imm ii) s

/-- `ADC`, direct (R222). -/
def execAdcDir (dd : Byte) (s : State) : Result :=
  accumulate (fun a m c => add8 c a m c.c) (.mem (.dir dd)) s

/-- `ADC`, extended (R222). -/
def execAdcExt (hhll : Word) (s : State) : Result :=
  accumulate (fun a m c => add8 c a m c.c) (.mem (.ext hhll)) s

/-- `ADC`, indexed, 16-bit offset (R222). -/
def execAdcIx2 (eeff : Word) (s : State) : Result :=
  accumulate (fun a m c => add8 c a m c.c) (.mem (.ix2 eeff)) s

/-- `ADC`, indexed, 8-bit offset (R222). -/
def execAdcIx1 (ff : Byte) (s : State) : Result :=
  accumulate (fun a m c => add8 c a m c.c) (.mem (.ix1 ff)) s

/-- `ADC`, indexed (R222). -/
def execAdcIx (s : State) : Result := accumulate (fun a m c => add8 c a m c.c) (.mem .ix) s

/-- `ADC`, stack pointer, 16-bit offset (R222). -/
def execAdcSp2 (eeff : Word) (s : State) : Result :=
  accumulate (fun a m c => add8 c a m c.c) (.mem (.sp2 eeff)) s

/-- `ADC`, stack pointer, 8-bit offset (R222). -/
def execAdcSp1 (ff : Byte) (s : State) : Result :=
  accumulate (fun a m c => add8 c a m c.c) (.mem (.sp1 ff)) s

/-- `SUB`, immediate (R223). -/
def execSubImm (ii : Byte) (s : State) : Result :=
  accumulate (fun a m c => sub8 c a m false) (.imm ii) s

/-- `SUB`, direct (R223). -/
def execSubDir (dd : Byte) (s : State) : Result :=
  accumulate (fun a m c => sub8 c a m false) (.mem (.dir dd)) s

/-- `SUB`, extended (R223). -/
def execSubExt (hhll : Word) (s : State) : Result :=
  accumulate (fun a m c => sub8 c a m false) (.mem (.ext hhll)) s

/-- `SUB`, indexed, 16-bit offset (R223). -/
def execSubIx2 (eeff : Word) (s : State) : Result :=
  accumulate (fun a m c => sub8 c a m false) (.mem (.ix2 eeff)) s

/-- `SUB`, indexed, 8-bit offset (R223). -/
def execSubIx1 (ff : Byte) (s : State) : Result :=
  accumulate (fun a m c => sub8 c a m false) (.mem (.ix1 ff)) s

/-- `SUB`, indexed (R223). -/
def execSubIx (s : State) : Result := accumulate (fun a m c => sub8 c a m false) (.mem .ix) s

/-- `SUB`, stack pointer, 16-bit offset (R223). -/
def execSubSp2 (eeff : Word) (s : State) : Result :=
  accumulate (fun a m c => sub8 c a m false) (.mem (.sp2 eeff)) s

/-- `SUB`, stack pointer, 8-bit offset (R223). -/
def execSubSp1 (ff : Byte) (s : State) : Result :=
  accumulate (fun a m c => sub8 c a m false) (.mem (.sp1 ff)) s

/-- `SBC`, immediate (R224). -/
def execSbcImm (ii : Byte) (s : State) : Result :=
  accumulate (fun a m c => sub8 c a m c.c) (.imm ii) s

/-- `SBC`, direct (R224). -/
def execSbcDir (dd : Byte) (s : State) : Result :=
  accumulate (fun a m c => sub8 c a m c.c) (.mem (.dir dd)) s

/-- `SBC`, extended (R224). -/
def execSbcExt (hhll : Word) (s : State) : Result :=
  accumulate (fun a m c => sub8 c a m c.c) (.mem (.ext hhll)) s

/-- `SBC`, indexed, 16-bit offset (R224). -/
def execSbcIx2 (eeff : Word) (s : State) : Result :=
  accumulate (fun a m c => sub8 c a m c.c) (.mem (.ix2 eeff)) s

/-- `SBC`, indexed, 8-bit offset (R224). -/
def execSbcIx1 (ff : Byte) (s : State) : Result :=
  accumulate (fun a m c => sub8 c a m c.c) (.mem (.ix1 ff)) s

/-- `SBC`, indexed (R224). -/
def execSbcIx (s : State) : Result := accumulate (fun a m c => sub8 c a m c.c) (.mem .ix) s

/-- `SBC`, stack pointer, 16-bit offset (R224). -/
def execSbcSp2 (eeff : Word) (s : State) : Result :=
  accumulate (fun a m c => sub8 c a m c.c) (.mem (.sp2 eeff)) s

/-- `SBC`, stack pointer, 8-bit offset (R224). -/
def execSbcSp1 (ff : Byte) (s : State) : Result :=
  accumulate (fun a m c => sub8 c a m c.c) (.mem (.sp1 ff)) s

/-- `CMP`, immediate (R225). -/
def execCmpImm (ii : Byte) (s : State) : Result :=
  compareWith State.a (fun a m c => (sub8 c a m false).2) (.imm ii) s

/-- `CMP`, direct (R225). -/
def execCmpDir (dd : Byte) (s : State) : Result :=
  compareWith State.a (fun a m c => (sub8 c a m false).2) (.mem (.dir dd)) s

/-- `CMP`, extended (R225). -/
def execCmpExt (hhll : Word) (s : State) : Result :=
  compareWith State.a (fun a m c => (sub8 c a m false).2) (.mem (.ext hhll)) s

/-- `CMP`, indexed, 16-bit offset (R225). -/
def execCmpIx2 (eeff : Word) (s : State) : Result :=
  compareWith State.a (fun a m c => (sub8 c a m false).2) (.mem (.ix2 eeff)) s

/-- `CMP`, indexed, 8-bit offset (R225). -/
def execCmpIx1 (ff : Byte) (s : State) : Result :=
  compareWith State.a (fun a m c => (sub8 c a m false).2) (.mem (.ix1 ff)) s

/-- `CMP`, indexed (R225). -/
def execCmpIx (s : State) : Result :=
  compareWith State.a (fun a m c => (sub8 c a m false).2) (.mem .ix) s

/-- `CMP`, stack pointer, 16-bit offset (R225). -/
def execCmpSp2 (eeff : Word) (s : State) : Result :=
  compareWith State.a (fun a m c => (sub8 c a m false).2) (.mem (.sp2 eeff)) s

/-- `CMP`, stack pointer, 8-bit offset (R225). -/
def execCmpSp1 (ff : Byte) (s : State) : Result :=
  compareWith State.a (fun a m c => (sub8 c a m false).2) (.mem (.sp1 ff)) s

/-- `CPX`, immediate (R226). -/
def execCpxImm (ii : Byte) (s : State) : Result :=
  compareWith State.x (fun x m c => (sub8 c x m false).2) (.imm ii) s

/-- `CPX`, direct (R226). -/
def execCpxDir (dd : Byte) (s : State) : Result :=
  compareWith State.x (fun x m c => (sub8 c x m false).2) (.mem (.dir dd)) s

/-- `CPX`, extended (R226). -/
def execCpxExt (hhll : Word) (s : State) : Result :=
  compareWith State.x (fun x m c => (sub8 c x m false).2) (.mem (.ext hhll)) s

/-- `CPX`, indexed, 16-bit offset (R226). -/
def execCpxIx2 (eeff : Word) (s : State) : Result :=
  compareWith State.x (fun x m c => (sub8 c x m false).2) (.mem (.ix2 eeff)) s

/-- `CPX`, indexed, 8-bit offset (R226). -/
def execCpxIx1 (ff : Byte) (s : State) : Result :=
  compareWith State.x (fun x m c => (sub8 c x m false).2) (.mem (.ix1 ff)) s

/-- `CPX`, indexed (R226). -/
def execCpxIx (s : State) : Result :=
  compareWith State.x (fun x m c => (sub8 c x m false).2) (.mem .ix) s

/-- `CPX`, stack pointer, 16-bit offset (R226). -/
def execCpxSp2 (eeff : Word) (s : State) : Result :=
  compareWith State.x (fun x m c => (sub8 c x m false).2) (.mem (.sp2 eeff)) s

/-- `CPX`, stack pointer, 8-bit offset (R226). -/
def execCpxSp1 (ff : Byte) (s : State) : Result :=
  compareWith State.x (fun x m c => (sub8 c x m false).2) (.mem (.sp1 ff)) s

/-- `CPHX`, immediate (R227). -/
def execCphxImm (jjkk : Word) (s : State) : Result := .next { s with ccr := sub16 s.ccr s.hx jjkk }

/-- `CPHX`, direct (R227). -/
def execCphxDir (dd : Byte) (s : State) : Result :=
  finish <| (busRead16 (zext16 dd) s).andThen fun m s =>
    .ok () { s with ccr := sub16 s.ccr s.hx m }

/-- `INC`, direct (R228). -/
def execIncDir (dd : Byte) (s : State) : Result := modifyMemory increment (.dir dd) s

/-- `INC`, indexed, 8-bit offset (R228). -/
def execIncIx1 (ff : Byte) (s : State) : Result := modifyMemory increment (.ix1 ff) s

/-- `INC`, indexed (R228). -/
def execIncIx (s : State) : Result := modifyMemory increment .ix s

/-- `INC`, stack pointer, 8-bit offset (R228). -/
def execIncSp1 (ff : Byte) (s : State) : Result := modifyMemory increment (.sp1 ff) s

/-- `INCA` (R228). -/
def execInca (s : State) : Result := modifyA increment s

/-- `INCX` (R228). -/
def execIncx (s : State) : Result := modifyX increment s

/-- `DEC`, direct (R229). -/
def execDecDir (dd : Byte) (s : State) : Result := modifyMemory decrement (.dir dd) s

/-- `DEC`, indexed, 8-bit offset (R229). -/
def execDecIx1 (ff : Byte) (s : State) : Result := modifyMemory decrement (.ix1 ff) s

/-- `DEC`, indexed (R229). -/
def execDecIx (s : State) : Result := modifyMemory decrement .ix s

/-- `DEC`, stack pointer, 8-bit offset (R229). -/
def execDecSp1 (ff : Byte) (s : State) : Result := modifyMemory decrement (.sp1 ff) s

/-- `DECA` (R229). -/
def execDeca (s : State) : Result := modifyA decrement s

/-- `DECX` (R229). -/
def execDecx (s : State) : Result := modifyX decrement s

/-- `NEG`, direct (R230). -/
def execNegDir (dd : Byte) (s : State) : Result := modifyMemory negate (.dir dd) s

/-- `NEG`, indexed, 8-bit offset (R230). -/
def execNegIx1 (ff : Byte) (s : State) : Result := modifyMemory negate (.ix1 ff) s

/-- `NEG`, indexed (R230). -/
def execNegIx (s : State) : Result := modifyMemory negate .ix s

/-- `NEG`, stack pointer, 8-bit offset (R230). -/
def execNegSp1 (ff : Byte) (s : State) : Result := modifyMemory negate (.sp1 ff) s

/-- `NEGA` (R230). -/
def execNega (s : State) : Result := modifyA negate s

/-- `NEGX` (R230). -/
def execNegx (s : State) : Result := modifyX negate s

/-- `TST` on memory: one read, no write (R231, 20_memory.md R68). -/
def testMemory (m : Addr) (s : State) : Result :=
  finish <| (busRead (effectiveAddress m s) s).andThen fun v s =>
    .ok () { s with ccr := moveFlags s.ccr v }

/-- `TST`, direct (R231). -/
def execTstDir (dd : Byte) (s : State) : Result := testMemory (.dir dd) s

/-- `TST`, indexed, 8-bit offset (R231). -/
def execTstIx1 (ff : Byte) (s : State) : Result := testMemory (.ix1 ff) s

/-- `TST`, indexed (R231). -/
def execTstIx (s : State) : Result := testMemory .ix s

/-- `TST`, stack pointer, 8-bit offset (R231). -/
def execTstSp1 (ff : Byte) (s : State) : Result := testMemory (.sp1 ff) s

/-- `TSTA` (R231). -/
def execTsta (s : State) : Result := .next { s with ccr := moveFlags s.ccr s.a }

/-- `TSTX` (R231). -/
def execTstx (s : State) : Result := .next { s with ccr := moveFlags s.ccr s.x }

/-- `MUL`: `X:A <- X * A`, unsigned (R240). -/
def execMul (s : State) : Result :=
  let p := BitVec.ofNat 16 (s.x.toNat * s.a.toNat)
  .next { s with x := hiByte p, a := loByte p, ccr := { s.ccr with h := false, c := false } }

/-- `DIV`: `A <- H:A div X`, `H <- H:A mod X`; by zero or with a quotient above `$FF`, `C` is set and `A`,
`H` and `Z` are free values (R241, D18). -/
def execDiv (s : State) : Result :=
  let n := s.h.toNat * 256 + s.a.toNat
  if s.x = 0 ∨ n / s.x.toNat > 255 then
    .next { s with
      a := Config.freeByte s.draws
      h := Config.freeByte (s.draws + 1)
      ccr := { s.ccr with z := Config.freeBit (s.draws + 2), c := true }
      draws := s.draws + 3 }
  else
    .next { s with
      a := BitVec.ofNat 8 (n / s.x.toNat)
      h := BitVec.ofNat 8 (n % s.x.toNat)
      ccr := { s.ccr with z := decide (n / s.x.toNat = 0), c := false } }

/-- `AIS` (R250). -/
def execAis (ii : Byte) (s : State) : Result := .next { s with sp := s.sp + sext16 ii }

/-- `AIX` (R251). -/
def execAix (ii : Byte) (s : State) : Result := .next (s.setHx (s.hx + sext16 ii))

/-- `NSA` (R252). -/
def execNsa (s : State) : Result := .next { s with a := (s.a <<< 4) ||| (s.a >>> 4) }

/-- `DAA`: the correction of the matching row of Table 5-2, with `V` a free value (D20); on a state that
matches no row `A`, `N`, `Z`, `C` and `V` are free values, `N` and `Z` not tied to `A` (R262, D17). -/
def execDaa (s : State) : Result :=
  match daaRow s.ccr.c s.a s.ccr.h with
  | some row =>
    let r := s.a + row.factor
    .next { s with
      a := r
      ccr :=
        { s.ccr with
          v := Config.freeBit s.draws, n := bit7 r, z := decide (r = 0), c := row.carryOut }
      draws := s.draws + 1 }
  | none =>
    .next { s with
      a := Config.freeByte s.draws
      ccr :=
        { s.ccr with
          v := Config.freeBit (s.draws + 1)
          n := Config.freeBit (s.draws + 2)
          z := Config.freeBit (s.draws + 3)
          c := Config.freeBit (s.draws + 4) }
      draws := s.draws + 5 }

end Sys2Proof.Machine
end

