-- ==== Sys2Proof/Machine/Branch.lean ====
section
/-!
DEFINITION. Branch instructions (45_branch.md R350 to R392). A branch has no meaning beyond its Boolean test
(R351).
-/

namespace Sys2Proof.Machine

/-- `BRA` (R352). -/
def execBra (rr : Byte) (s : State) : Result := .next (branchIf true rr s)

/-- `BRN` (R353). -/
def execBrn (rr : Byte) (s : State) : Result := .next (branchIf false rr s)

/-- `BHI` (R354). -/
def execBhi (rr : Byte) (s : State) : Result := .next (branchIf (!(s.ccr.c || s.ccr.z)) rr s)

/-- `BLS` (R355). -/
def execBls (rr : Byte) (s : State) : Result := .next (branchIf (s.ccr.c || s.ccr.z) rr s)

/-- `BCC` (R356). -/
def execBcc (rr : Byte) (s : State) : Result := .next (branchIf (!s.ccr.c) rr s)

/-- `BCS` (R357). -/
def execBcs (rr : Byte) (s : State) : Result := .next (branchIf s.ccr.c rr s)

/-- `BNE` (R358). -/
def execBne (rr : Byte) (s : State) : Result := .next (branchIf (!s.ccr.z) rr s)

/-- `BEQ` (R359). -/
def execBeq (rr : Byte) (s : State) : Result := .next (branchIf s.ccr.z rr s)

/-- `BHCC` (R360). -/
def execBhcc (rr : Byte) (s : State) : Result := .next (branchIf (!s.ccr.h) rr s)

/-- `BHCS` (R361). -/
def execBhcs (rr : Byte) (s : State) : Result := .next (branchIf s.ccr.h rr s)

/-- `BPL` (R362). -/
def execBpl (rr : Byte) (s : State) : Result := .next (branchIf (!s.ccr.n) rr s)

/-- `BMI` (R363). -/
def execBmi (rr : Byte) (s : State) : Result := .next (branchIf s.ccr.n rr s)

/-- `BMC` (R364). -/
def execBmc (rr : Byte) (s : State) : Result := .next (branchIf (!s.ccr.i) rr s)

/-- `BMS` (R365). -/
def execBms (rr : Byte) (s : State) : Result := .next (branchIf s.ccr.i rr s)

/-- `BGE` (R366). -/
def execBge (rr : Byte) (s : State) : Result := .next (branchIf (!(s.ccr.n ^^ s.ccr.v)) rr s)

/-- `BLT` (R367). -/
def execBlt (rr : Byte) (s : State) : Result := .next (branchIf (s.ccr.n ^^ s.ccr.v) rr s)

/-- `BGT` (R368). -/
def execBgt (rr : Byte) (s : State) : Result :=
  .next (branchIf (!(s.ccr.z || (s.ccr.n ^^ s.ccr.v))) rr s)

/-- `BLE` (R369). -/
def execBle (rr : Byte) (s : State) : Result :=
  .next (branchIf (s.ccr.z || (s.ccr.n ^^ s.ccr.v)) rr s)

/-- `BIH` (R376). -/
def execBih (rr : Byte) (s : State) : Result := .next (branchIf s.irqPin rr s)

/-- `BIL` (R377). -/
def execBil (rr : Byte) (s : State) : Result := .next (branchIf (!s.irqPin) rr s)

/-- `BRSET n` and `BRCLR n`: `C` takes the tested bit, taken or not (R380, R381). -/
def bitBranch (n : Nat) (when : Bool) (dd rr : Byte) (s : State) : Result :=
  finish <| (busRead (zext16 dd) s).andThen fun v s =>
    .ok () (branchIf (v.getLsbD n == when) rr { s with ccr := { s.ccr with c := v.getLsbD n } })

/-- `BRSET 0` (R380). -/
def execBrset0 (dd : Byte) (rr : Byte) (s : State) : Result := bitBranch 0 true dd rr s

/-- `BRSET 1` (R380). -/
def execBrset1 (dd : Byte) (rr : Byte) (s : State) : Result := bitBranch 1 true dd rr s

/-- `BRSET 2` (R380). -/
def execBrset2 (dd : Byte) (rr : Byte) (s : State) : Result := bitBranch 2 true dd rr s

/-- `BRSET 3` (R380). -/
def execBrset3 (dd : Byte) (rr : Byte) (s : State) : Result := bitBranch 3 true dd rr s

/-- `BRSET 4` (R380). -/
def execBrset4 (dd : Byte) (rr : Byte) (s : State) : Result := bitBranch 4 true dd rr s

/-- `BRSET 5` (R380). -/
def execBrset5 (dd : Byte) (rr : Byte) (s : State) : Result := bitBranch 5 true dd rr s

/-- `BRSET 6` (R380). -/
def execBrset6 (dd : Byte) (rr : Byte) (s : State) : Result := bitBranch 6 true dd rr s

/-- `BRSET 7` (R380). -/
def execBrset7 (dd : Byte) (rr : Byte) (s : State) : Result := bitBranch 7 true dd rr s

/-- `BRCLR 0` (R381). -/
def execBrclr0 (dd : Byte) (rr : Byte) (s : State) : Result := bitBranch 0 false dd rr s

/-- `BRCLR 1` (R381). -/
def execBrclr1 (dd : Byte) (rr : Byte) (s : State) : Result := bitBranch 1 false dd rr s

/-- `BRCLR 2` (R381). -/
def execBrclr2 (dd : Byte) (rr : Byte) (s : State) : Result := bitBranch 2 false dd rr s

/-- `BRCLR 3` (R381). -/
def execBrclr3 (dd : Byte) (rr : Byte) (s : State) : Result := bitBranch 3 false dd rr s

/-- `BRCLR 4` (R381). -/
def execBrclr4 (dd : Byte) (rr : Byte) (s : State) : Result := bitBranch 4 false dd rr s

/-- `BRCLR 5` (R381). -/
def execBrclr5 (dd : Byte) (rr : Byte) (s : State) : Result := bitBranch 5 false dd rr s

/-- `BRCLR 6` (R381). -/
def execBrclr6 (dd : Byte) (rr : Byte) (s : State) : Result := bitBranch 6 false dd rr s

/-- `BRCLR 7` (R381). -/
def execBrclr7 (dd : Byte) (rr : Byte) (s : State) : Result := bitBranch 7 false dd rr s

/-- `CBEQ` on memory: branch if the byte equals `A`; no flag changes (R385). -/
def compareBranch (m : Addr) (rr : Byte) (s : State) : Result :=
  finish <| (busRead (effectiveAddress m s) s).andThen fun v s =>
    .ok () (branchIf (s.a == v) rr s)

/-- `CBEQ` with post-increment: `HX` is incremented whether or not the branch is taken (R385). -/
def compareBranchInc (m : Addr) (rr : Byte) (s : State) : Result :=
  finish <| (busRead (effectiveAddress m s) s).andThen fun v s =>
    .ok () (branchIf (s.a == v) rr (postInc s))

/-- `CBEQ`, direct (R385). -/
def execCbeqDir (dd : Byte) (rr : Byte) (s : State) : Result := compareBranch (.dir dd) rr s

/-- `CBEQ`, indexed, 8-bit offset, post-increment (R385). -/
def execCbeqIx1Inc (ff : Byte) (rr : Byte) (s : State) : Result := compareBranchInc (.ix1 ff) rr s

/-- `CBEQ`, indexed, post-increment (R385). -/
def execCbeqIxInc (rr : Byte) (s : State) : Result := compareBranchInc .ix rr s

/-- `CBEQ`, stack pointer, 8-bit offset (R385). -/
def execCbeqSp1 (ff : Byte) (rr : Byte) (s : State) : Result := compareBranch (.sp1 ff) rr s

/-- `CBEQA` (R386). -/
def execCbeqa (ii : Byte) (rr : Byte) (s : State) : Result := .next (branchIf (s.a == ii) rr s)

/-- `CBEQX` (R387). -/
def execCbeqx (ii : Byte) (rr : Byte) (s : State) : Result := .next (branchIf (s.x == ii) rr s)

/-- `DBNZ` on memory: one read, one write of the same address, no flag changes (R390). -/
def decrementBranch (m : Addr) (rr : Byte) (s : State) : Result :=
  finish <| (busRead (effectiveAddress m s) s).andThen fun v s' =>
    (busWrite (effectiveAddress m s) (v - 1) s').andThen fun _ s'' =>
    .ok () (branchIf (v - 1 != 0) rr s'')

/-- `DBNZ`, direct (R390). -/
def execDbnzDir (dd : Byte) (rr : Byte) (s : State) : Result := decrementBranch (.dir dd) rr s

/-- `DBNZ`, indexed, 8-bit offset (R390). -/
def execDbnzIx1 (ff : Byte) (rr : Byte) (s : State) : Result := decrementBranch (.ix1 ff) rr s

/-- `DBNZ`, indexed (R390). -/
def execDbnzIx (rr : Byte) (s : State) : Result := decrementBranch .ix rr s

/-- `DBNZ`, stack pointer, 8-bit offset (R390). -/
def execDbnzSp1 (ff : Byte) (rr : Byte) (s : State) : Result := decrementBranch (.sp1 ff) rr s

/-- `DBNZA` (R391). -/
def execDbnza (rr : Byte) (s : State) : Result :=
  .next (branchIf (s.a - 1 != 0) rr { s with a := s.a - 1 })

/-- `DBNZX` (R392). -/
def execDbnzx (rr : Byte) (s : State) : Result :=
  .next (branchIf (s.x - 1 != 0) rr { s with x := s.x - 1 })

end Sys2Proof.Machine
end

