-- ==== Sys2Proof/Machine/Control.lean ====
section
/-!
DEFINITION. Control and system instructions (48_control_system.md R460 to R481).
-/

namespace Sys2Proof.Machine

/-- After a `CLI`, `SEI` or `TAP`: keep the old mask for the next boundary if the instruction changed
it (60_exceptions.md R513, 10_state.md R47). -/
def openWindow (old : Bool) (s : State) : State :=
  if s.ccr.i = old then s else { s with iWindow := some old }

/-- `SWI` (R461). -/
def execSwi (s : State) : Result := finish (takeException swiVector s)

/-- `RTI` (R462). -/
def execRti (s : State) : Result := finish (returnFromException s)

/-- `TAP` (R463). -/
def execTap (s : State) : Result := .next (openWindow s.ccr.i { s with ccr := loadCcr s.a })

/-- `TPA` (R464). -/
def execTpa (s : State) : Result := .next { s with a := ccrByte s.ccr }

/-- `CLC` (R465). -/
def execClc (s : State) : Result := .next { s with ccr := { s.ccr with c := false } }

/-- `SEC` (R466). -/
def execSec (s : State) : Result := .next { s with ccr := { s.ccr with c := true } }

/-- `CLI` (R467). -/
def execCli (s : State) : Result :=
  .next (openWindow s.ccr.i { s with ccr := { s.ccr with i := false } })

/-- `SEI` (R468). -/
def execSei (s : State) : Result :=
  .next (openWindow s.ccr.i { s with ccr := { s.ccr with i := true } })

/-- `NOP` (R469). -/
def execNop (s : State) : Result := .next s

/-- `STOP` (R480). -/
def execStop (s : State) : Result :=
  .next { s with ccr := { s.ccr with i := false }, run := .stopped }

/-- `WAIT` (R481). -/
def execWait (s : State) : Result :=
  .next { s with ccr := { s.ccr with i := false }, run := .waiting }

end Sys2Proof.Machine
end

