-- ==== Sys2Proof/Machine/Jump.lean ====
section
/-!
DEFINITION. Jump and subroutine instructions (46_jump_subroutine.md R400 to R404). The effective address itself
is loaded into `PC`; nothing is read at it (40_addressing_modes.md R161).
-/

namespace Sys2Proof.Machine

/-- Call the subroutine at an address: the return address is pushed, low byte first (R400, R402). -/
def callSubroutine (destination : Word) (s : State) : Result :=
  finish <| (pushWord s.pc s).andThen fun _ s => .ok () { s with pc := destination }

/-- `JMP`, direct (R401). -/
def execJmpDir (dd : Byte) (s : State) : Result :=
  .next { s with pc := effectiveAddress (.dir dd) s }

/-- `JMP`, extended (R401). -/
def execJmpExt (hhll : Word) (s : State) : Result :=
  .next { s with pc := effectiveAddress (.ext hhll) s }

/-- `JMP`, indexed, 16-bit offset (R401). -/
def execJmpIx2 (eeff : Word) (s : State) : Result :=
  .next { s with pc := effectiveAddress (.ix2 eeff) s }

/-- `JMP`, indexed, 8-bit offset (R401). -/
def execJmpIx1 (ff : Byte) (s : State) : Result :=
  .next { s with pc := effectiveAddress (.ix1 ff) s }

/-- `JMP`, indexed (R401). -/
def execJmpIx (s : State) : Result := .next { s with pc := effectiveAddress .ix s }

/-- `JSR`, direct (R402). -/
def execJsrDir (dd : Byte) (s : State) : Result := callSubroutine (effectiveAddress (.dir dd) s) s

/-- `JSR`, extended (R402). -/
def execJsrExt (hhll : Word) (s : State) : Result :=
  callSubroutine (effectiveAddress (.ext hhll) s) s

/-- `JSR`, indexed, 16-bit offset (R402). -/
def execJsrIx2 (eeff : Word) (s : State) : Result :=
  callSubroutine (effectiveAddress (.ix2 eeff) s) s

/-- `JSR`, indexed, 8-bit offset (R402). -/
def execJsrIx1 (ff : Byte) (s : State) : Result := callSubroutine (effectiveAddress (.ix1 ff) s) s

/-- `JSR`, indexed (R402). -/
def execJsrIx (s : State) : Result := callSubroutine (effectiveAddress .ix s) s

/-- `BSR` (R403). -/
def execBsr (rr : Byte) (s : State) : Result := callSubroutine (target s rr) s

/-- `RTS` (R404). -/
def execRts (s : State) : Result :=
  finish <| (pullWord s).andThen fun v s => .ok () { s with pc := v }

end Sys2Proof.Machine
end

