-- ==== Sys2Proof/Machine/LoadStore.lean ====
section
/-!
DEFINITION. Load, store, move and clear instructions (41_load_store_move.md R180 to R195).
-/

namespace Sys2Proof.Machine

/-- A load of `A`: `V` cleared, `N` and `Z` from the byte (R181). -/
def loadA (op : Operand) (s : State) : Result :=
  finish <| (readOperand op s).andThen fun m s =>
    .ok () { s with a := m, ccr := moveFlags s.ccr m }

/-- A load of `X`; the effective address used the old `X` (R182). -/
def loadX (op : Operand) (s : State) : Result :=
  finish <| (readOperand op s).andThen fun m s =>
    .ok () { s with x := m, ccr := moveFlags s.ccr m }

/-- Load `HX` with a 16-bit value (R183). -/
def loadHx (w : Word) (s : State) : State :=
  { s with h := hiByte w, x := loByte w, ccr := moveFlags16 s.ccr w }

/-- The common part of `MOV` after the source byte is read: write it, then the flags of the byte
(R187). -/
def moveTo (dst : Word) (v : Byte) (s : State) : Bus Unit :=
  (busWrite dst v s).andThen fun _ s => .ok () { s with ccr := moveFlags s.ccr v }

/-- `CLR` on memory: one write and no read (R192, 20_memory.md R68, D16). -/
def clearMemory (m : Addr) (s : State) : Result :=
  finish <| (busWrite (effectiveAddress m s) 0 s).andThen fun _ s =>
    .ok () { s with ccr := clearFlags s.ccr }

/-- `LDA`, immediate (R181). -/
def execLdaImm (ii : Byte) (s : State) : Result := loadA (.imm ii) s

/-- `LDA`, direct (R181). -/
def execLdaDir (dd : Byte) (s : State) : Result := loadA (.mem (.dir dd)) s

/-- `LDA`, extended (R181). -/
def execLdaExt (hhll : Word) (s : State) : Result := loadA (.mem (.ext hhll)) s

/-- `LDA`, indexed, 16-bit offset (R181). -/
def execLdaIx2 (eeff : Word) (s : State) : Result := loadA (.mem (.ix2 eeff)) s

/-- `LDA`, indexed, 8-bit offset (R181). -/
def execLdaIx1 (ff : Byte) (s : State) : Result := loadA (.mem (.ix1 ff)) s

/-- `LDA`, indexed (R181). -/
def execLdaIx (s : State) : Result := loadA (.mem .ix) s

/-- `LDA`, stack pointer, 16-bit offset (R181). -/
def execLdaSp2 (eeff : Word) (s : State) : Result := loadA (.mem (.sp2 eeff)) s

/-- `LDA`, stack pointer, 8-bit offset (R181). -/
def execLdaSp1 (ff : Byte) (s : State) : Result := loadA (.mem (.sp1 ff)) s

/-- `LDX`, immediate (R182). -/
def execLdxImm (ii : Byte) (s : State) : Result := loadX (.imm ii) s

/-- `LDX`, direct (R182). -/
def execLdxDir (dd : Byte) (s : State) : Result := loadX (.mem (.dir dd)) s

/-- `LDX`, extended (R182). -/
def execLdxExt (hhll : Word) (s : State) : Result := loadX (.mem (.ext hhll)) s

/-- `LDX`, indexed, 16-bit offset (R182). -/
def execLdxIx2 (eeff : Word) (s : State) : Result := loadX (.mem (.ix2 eeff)) s

/-- `LDX`, indexed, 8-bit offset (R182). -/
def execLdxIx1 (ff : Byte) (s : State) : Result := loadX (.mem (.ix1 ff)) s

/-- `LDX`, indexed (R182). -/
def execLdxIx (s : State) : Result := loadX (.mem .ix) s

/-- `LDX`, stack pointer, 16-bit offset (R182). -/
def execLdxSp2 (eeff : Word) (s : State) : Result := loadX (.mem (.sp2 eeff)) s

/-- `LDX`, stack pointer, 8-bit offset (R182). -/
def execLdxSp1 (ff : Byte) (s : State) : Result := loadX (.mem (.sp1 ff)) s

/-- `LDHX`, immediate (R183). -/
def execLdhxImm (jjkk : Word) (s : State) : Result := .next (loadHx jjkk s)

/-- `LDHX`, direct (R183). -/
def execLdhxDir (dd : Byte) (s : State) : Result :=
  finish <| (busRead16 (zext16 dd) s).andThen fun w s => .ok () (loadHx w s)

/-- `STA`, direct (R184). -/
def execStaDir (dd : Byte) (s : State) : Result := storeByte (.dir dd) s.a s

/-- `STA`, extended (R184). -/
def execStaExt (hhll : Word) (s : State) : Result := storeByte (.ext hhll) s.a s

/-- `STA`, indexed, 16-bit offset (R184). -/
def execStaIx2 (eeff : Word) (s : State) : Result := storeByte (.ix2 eeff) s.a s

/-- `STA`, indexed, 8-bit offset (R184). -/
def execStaIx1 (ff : Byte) (s : State) : Result := storeByte (.ix1 ff) s.a s

/-- `STA`, indexed (R184). -/
def execStaIx (s : State) : Result := storeByte .ix s.a s

/-- `STA`, stack pointer, 16-bit offset (R184). -/
def execStaSp2 (eeff : Word) (s : State) : Result := storeByte (.sp2 eeff) s.a s

/-- `STA`, stack pointer, 8-bit offset (R184). -/
def execStaSp1 (ff : Byte) (s : State) : Result := storeByte (.sp1 ff) s.a s

/-- `STX`, direct (R185). -/
def execStxDir (dd : Byte) (s : State) : Result := storeByte (.dir dd) s.x s

/-- `STX`, extended (R185). -/
def execStxExt (hhll : Word) (s : State) : Result := storeByte (.ext hhll) s.x s

/-- `STX`, indexed, 16-bit offset (R185). -/
def execStxIx2 (eeff : Word) (s : State) : Result := storeByte (.ix2 eeff) s.x s

/-- `STX`, indexed, 8-bit offset (R185). -/
def execStxIx1 (ff : Byte) (s : State) : Result := storeByte (.ix1 ff) s.x s

/-- `STX`, indexed (R185). -/
def execStxIx (s : State) : Result := storeByte .ix s.x s

/-- `STX`, stack pointer, 16-bit offset (R185). -/
def execStxSp2 (eeff : Word) (s : State) : Result := storeByte (.sp2 eeff) s.x s

/-- `STX`, stack pointer, 8-bit offset (R185). -/
def execStxSp1 (ff : Byte) (s : State) : Result := storeByte (.sp1 ff) s.x s

/-- `STHX`: `H`, then `X` (R186). -/
def execSthx (dd : Byte) (s : State) : Result :=
  finish <| (busWrite16 (zext16 dd) s.hx s).andThen fun _ s =>
    .ok () { s with ccr := moveFlags16 s.ccr s.hx }

/-- `MOV`, direct to direct (R188). -/
def execMovDirDir (src : Byte) (dst : Byte) (s : State) : Result :=
  finish <| (busRead (zext16 src) s).andThen fun v s => moveTo (zext16 dst) v s

/-- `MOV`, direct to indexed, post-increment (R189). -/
def execMovDirIxInc (dd : Byte) (s : State) : Result :=
  finish <| (busRead (zext16 dd) s).andThen fun v s =>
    (moveTo s.hx v s).andThen fun _ s => .ok () (postInc s)

/-- `MOV`, immediate to direct (R190). -/
def execMovImmDir (ii : Byte) (dd : Byte) (s : State) : Result := finish (moveTo (zext16 dd) ii s)

/-- `MOV`, indexed to direct, post-increment (R191). -/
def execMovIxIncDir (dd : Byte) (s : State) : Result :=
  finish <| (busRead s.hx s).andThen fun v s =>
    (moveTo (zext16 dd) v s).andThen fun _ s => .ok () (postInc s)

/-- `CLR`, direct (R192). -/
def execClrDir (dd : Byte) (s : State) : Result := clearMemory (.dir dd) s

/-- `CLR`, indexed, 8-bit offset (R192). -/
def execClrIx1 (ff : Byte) (s : State) : Result := clearMemory (.ix1 ff) s

/-- `CLR`, indexed (R192). -/
def execClrIx (s : State) : Result := clearMemory .ix s

/-- `CLR`, stack pointer, 8-bit offset (R192). -/
def execClrSp1 (ff : Byte) (s : State) : Result := clearMemory (.sp1 ff) s

/-- `CLRA` (R193). -/
def execClra (s : State) : Result := .next { s with a := 0, ccr := clearFlags s.ccr }

/-- `CLRX` (R194). -/
def execClrx (s : State) : Result := .next { s with x := 0, ccr := clearFlags s.ccr }

/-- `CLRH` (R195). -/
def execClrh (s : State) : Result := .next { s with h := 0, ccr := clearFlags s.ccr }

end Sys2Proof.Machine
end

