-- ==== Sys2Proof/Machine/Logic.lean ====
section
/-!
DEFINITION. Logical and bit-manipulation instructions (43_logic_bit.md R280 to R287).
-/

namespace Sys2Proof.Machine

/-- `AND`, immediate (R281). -/
def execAndImm (ii : Byte) (s : State) : Result :=
  accumulate (fun a m c => (a &&& m, moveFlags c (a &&& m))) (.imm ii) s

/-- `AND`, direct (R281). -/
def execAndDir (dd : Byte) (s : State) : Result :=
  accumulate (fun a m c => (a &&& m, moveFlags c (a &&& m))) (.mem (.dir dd)) s

/-- `AND`, extended (R281). -/
def execAndExt (hhll : Word) (s : State) : Result :=
  accumulate (fun a m c => (a &&& m, moveFlags c (a &&& m))) (.mem (.ext hhll)) s

/-- `AND`, indexed, 16-bit offset (R281). -/
def execAndIx2 (eeff : Word) (s : State) : Result :=
  accumulate (fun a m c => (a &&& m, moveFlags c (a &&& m))) (.mem (.ix2 eeff)) s

/-- `AND`, indexed, 8-bit offset (R281). -/
def execAndIx1 (ff : Byte) (s : State) : Result :=
  accumulate (fun a m c => (a &&& m, moveFlags c (a &&& m))) (.mem (.ix1 ff)) s

/-- `AND`, indexed (R281). -/
def execAndIx (s : State) : Result :=
  accumulate (fun a m c => (a &&& m, moveFlags c (a &&& m))) (.mem .ix) s

/-- `AND`, stack pointer, 16-bit offset (R281). -/
def execAndSp2 (eeff : Word) (s : State) : Result :=
  accumulate (fun a m c => (a &&& m, moveFlags c (a &&& m))) (.mem (.sp2 eeff)) s

/-- `AND`, stack pointer, 8-bit offset (R281). -/
def execAndSp1 (ff : Byte) (s : State) : Result :=
  accumulate (fun a m c => (a &&& m, moveFlags c (a &&& m))) (.mem (.sp1 ff)) s

/-- `ORA`, immediate (R282). -/
def execOraImm (ii : Byte) (s : State) : Result :=
  accumulate (fun a m c => (a ||| m, moveFlags c (a ||| m))) (.imm ii) s

/-- `ORA`, direct (R282). -/
def execOraDir (dd : Byte) (s : State) : Result :=
  accumulate (fun a m c => (a ||| m, moveFlags c (a ||| m))) (.mem (.dir dd)) s

/-- `ORA`, extended (R282). -/
def execOraExt (hhll : Word) (s : State) : Result :=
  accumulate (fun a m c => (a ||| m, moveFlags c (a ||| m))) (.mem (.ext hhll)) s

/-- `ORA`, indexed, 16-bit offset (R282). -/
def execOraIx2 (eeff : Word) (s : State) : Result :=
  accumulate (fun a m c => (a ||| m, moveFlags c (a ||| m))) (.mem (.ix2 eeff)) s

/-- `ORA`, indexed, 8-bit offset (R282). -/
def execOraIx1 (ff : Byte) (s : State) : Result :=
  accumulate (fun a m c => (a ||| m, moveFlags c (a ||| m))) (.mem (.ix1 ff)) s

/-- `ORA`, indexed (R282). -/
def execOraIx (s : State) : Result :=
  accumulate (fun a m c => (a ||| m, moveFlags c (a ||| m))) (.mem .ix) s

/-- `ORA`, stack pointer, 16-bit offset (R282). -/
def execOraSp2 (eeff : Word) (s : State) : Result :=
  accumulate (fun a m c => (a ||| m, moveFlags c (a ||| m))) (.mem (.sp2 eeff)) s

/-- `ORA`, stack pointer, 8-bit offset (R282). -/
def execOraSp1 (ff : Byte) (s : State) : Result :=
  accumulate (fun a m c => (a ||| m, moveFlags c (a ||| m))) (.mem (.sp1 ff)) s

/-- `EOR`, immediate (R283). -/
def execEorImm (ii : Byte) (s : State) : Result :=
  accumulate (fun a m c => (a ^^^ m, moveFlags c (a ^^^ m))) (.imm ii) s

/-- `EOR`, direct (R283). -/
def execEorDir (dd : Byte) (s : State) : Result :=
  accumulate (fun a m c => (a ^^^ m, moveFlags c (a ^^^ m))) (.mem (.dir dd)) s

/-- `EOR`, extended (R283). -/
def execEorExt (hhll : Word) (s : State) : Result :=
  accumulate (fun a m c => (a ^^^ m, moveFlags c (a ^^^ m))) (.mem (.ext hhll)) s

/-- `EOR`, indexed, 16-bit offset (R283). -/
def execEorIx2 (eeff : Word) (s : State) : Result :=
  accumulate (fun a m c => (a ^^^ m, moveFlags c (a ^^^ m))) (.mem (.ix2 eeff)) s

/-- `EOR`, indexed, 8-bit offset (R283). -/
def execEorIx1 (ff : Byte) (s : State) : Result :=
  accumulate (fun a m c => (a ^^^ m, moveFlags c (a ^^^ m))) (.mem (.ix1 ff)) s

/-- `EOR`, indexed (R283). -/
def execEorIx (s : State) : Result :=
  accumulate (fun a m c => (a ^^^ m, moveFlags c (a ^^^ m))) (.mem .ix) s

/-- `EOR`, stack pointer, 16-bit offset (R283). -/
def execEorSp2 (eeff : Word) (s : State) : Result :=
  accumulate (fun a m c => (a ^^^ m, moveFlags c (a ^^^ m))) (.mem (.sp2 eeff)) s

/-- `EOR`, stack pointer, 8-bit offset (R283). -/
def execEorSp1 (ff : Byte) (s : State) : Result :=
  accumulate (fun a m c => (a ^^^ m, moveFlags c (a ^^^ m))) (.mem (.sp1 ff)) s

/-- `BIT`, immediate (R284). -/
def execBitImm (ii : Byte) (s : State) : Result :=
  compareWith State.a (fun a m c => moveFlags c (a &&& m)) (.imm ii) s

/-- `BIT`, direct (R284). -/
def execBitDir (dd : Byte) (s : State) : Result :=
  compareWith State.a (fun a m c => moveFlags c (a &&& m)) (.mem (.dir dd)) s

/-- `BIT`, extended (R284). -/
def execBitExt (hhll : Word) (s : State) : Result :=
  compareWith State.a (fun a m c => moveFlags c (a &&& m)) (.mem (.ext hhll)) s

/-- `BIT`, indexed, 16-bit offset (R284). -/
def execBitIx2 (eeff : Word) (s : State) : Result :=
  compareWith State.a (fun a m c => moveFlags c (a &&& m)) (.mem (.ix2 eeff)) s

/-- `BIT`, indexed, 8-bit offset (R284). -/
def execBitIx1 (ff : Byte) (s : State) : Result :=
  compareWith State.a (fun a m c => moveFlags c (a &&& m)) (.mem (.ix1 ff)) s

/-- `BIT`, indexed (R284). -/
def execBitIx (s : State) : Result :=
  compareWith State.a (fun a m c => moveFlags c (a &&& m)) (.mem .ix) s

/-- `BIT`, stack pointer, 16-bit offset (R284). -/
def execBitSp2 (eeff : Word) (s : State) : Result :=
  compareWith State.a (fun a m c => moveFlags c (a &&& m)) (.mem (.sp2 eeff)) s

/-- `BIT`, stack pointer, 8-bit offset (R284). -/
def execBitSp1 (ff : Byte) (s : State) : Result :=
  compareWith State.a (fun a m c => moveFlags c (a &&& m)) (.mem (.sp1 ff)) s

/-- `COM`, direct (R285). -/
def execComDir (dd : Byte) (s : State) : Result := modifyMemory complement (.dir dd) s

/-- `COM`, indexed, 8-bit offset (R285). -/
def execComIx1 (ff : Byte) (s : State) : Result := modifyMemory complement (.ix1 ff) s

/-- `COM`, indexed (R285). -/
def execComIx (s : State) : Result := modifyMemory complement .ix s

/-- `COM`, stack pointer, 8-bit offset (R285). -/
def execComSp1 (ff : Byte) (s : State) : Result := modifyMemory complement (.sp1 ff) s

/-- `COMA` (R285). -/
def execComa (s : State) : Result := modifyA complement s

/-- `COMX` (R285). -/
def execComx (s : State) : Result := modifyX complement s

/-- The byte with only bit `n` set. -/
def bitMask (n : Nat) : Byte := 1 <<< n

/-- `BSET n`: one read and one write, which takes place even when the bit was 1 (R286, D16). -/
def setBit (n : Nat) (dd : Byte) (s : State) : Result :=
  modifyMemory (fun v c => (v ||| bitMask n, c)) (.dir dd) s

/-- `BCLR n`: one read and one write, which takes place even when the bit was 0 (R287, D16). -/
def clearBit (n : Nat) (dd : Byte) (s : State) : Result :=
  modifyMemory (fun v c => (v &&& ~~~(bitMask n), c)) (.dir dd) s

/-- `BSET 0` (R286). -/
def execBset0 (dd : Byte) (s : State) : Result := setBit 0 dd s

/-- `BSET 1` (R286). -/
def execBset1 (dd : Byte) (s : State) : Result := setBit 1 dd s

/-- `BSET 2` (R286). -/
def execBset2 (dd : Byte) (s : State) : Result := setBit 2 dd s

/-- `BSET 3` (R286). -/
def execBset3 (dd : Byte) (s : State) : Result := setBit 3 dd s

/-- `BSET 4` (R286). -/
def execBset4 (dd : Byte) (s : State) : Result := setBit 4 dd s

/-- `BSET 5` (R286). -/
def execBset5 (dd : Byte) (s : State) : Result := setBit 5 dd s

/-- `BSET 6` (R286). -/
def execBset6 (dd : Byte) (s : State) : Result := setBit 6 dd s

/-- `BSET 7` (R286). -/
def execBset7 (dd : Byte) (s : State) : Result := setBit 7 dd s

/-- `BCLR 0` (R287). -/
def execBclr0 (dd : Byte) (s : State) : Result := clearBit 0 dd s

/-- `BCLR 1` (R287). -/
def execBclr1 (dd : Byte) (s : State) : Result := clearBit 1 dd s

/-- `BCLR 2` (R287). -/
def execBclr2 (dd : Byte) (s : State) : Result := clearBit 2 dd s

/-- `BCLR 3` (R287). -/
def execBclr3 (dd : Byte) (s : State) : Result := clearBit 3 dd s

/-- `BCLR 4` (R287). -/
def execBclr4 (dd : Byte) (s : State) : Result := clearBit 4 dd s

/-- `BCLR 5` (R287). -/
def execBclr5 (dd : Byte) (s : State) : Result := clearBit 5 dd s

/-- `BCLR 6` (R287). -/
def execBclr6 (dd : Byte) (s : State) : Result := clearBit 6 dd s

/-- `BCLR 7` (R287). -/
def execBclr7 (dd : Byte) (s : State) : Result := clearBit 7 dd s

end Sys2Proof.Machine
end

