-- ==== Sys2Proof/Machine/Shift.lean ====
section
/-!
DEFINITION. Shift and rotate instructions (44_shift_rotate.md R320 to R325). `LSL` is also written `ASL`.
-/

namespace Sys2Proof.Machine

/-- `LSL`, direct (R321). -/
def execLslDir (dd : Byte) (s : State) : Result := modifyMemory shiftLeft (.dir dd) s

/-- `LSL`, indexed, 8-bit offset (R321). -/
def execLslIx1 (ff : Byte) (s : State) : Result := modifyMemory shiftLeft (.ix1 ff) s

/-- `LSL`, indexed (R321). -/
def execLslIx (s : State) : Result := modifyMemory shiftLeft .ix s

/-- `LSL`, stack pointer, 8-bit offset (R321). -/
def execLslSp1 (ff : Byte) (s : State) : Result := modifyMemory shiftLeft (.sp1 ff) s

/-- `LSLA` (R321). -/
def execLsla (s : State) : Result := modifyA shiftLeft s

/-- `LSLX` (R321). -/
def execLslx (s : State) : Result := modifyX shiftLeft s

/-- `ASR`, direct (R322). -/
def execAsrDir (dd : Byte) (s : State) : Result := modifyMemory arithmeticShiftRight (.dir dd) s

/-- `ASR`, indexed, 8-bit offset (R322). -/
def execAsrIx1 (ff : Byte) (s : State) : Result := modifyMemory arithmeticShiftRight (.ix1 ff) s

/-- `ASR`, indexed (R322). -/
def execAsrIx (s : State) : Result := modifyMemory arithmeticShiftRight .ix s

/-- `ASR`, stack pointer, 8-bit offset (R322). -/
def execAsrSp1 (ff : Byte) (s : State) : Result := modifyMemory arithmeticShiftRight (.sp1 ff) s

/-- `ASRA` (R322). -/
def execAsra (s : State) : Result := modifyA arithmeticShiftRight s

/-- `ASRX` (R322). -/
def execAsrx (s : State) : Result := modifyX arithmeticShiftRight s

/-- `LSR`, direct (R323). -/
def execLsrDir (dd : Byte) (s : State) : Result := modifyMemory logicalShiftRight (.dir dd) s

/-- `LSR`, indexed, 8-bit offset (R323). -/
def execLsrIx1 (ff : Byte) (s : State) : Result := modifyMemory logicalShiftRight (.ix1 ff) s

/-- `LSR`, indexed (R323). -/
def execLsrIx (s : State) : Result := modifyMemory logicalShiftRight .ix s

/-- `LSR`, stack pointer, 8-bit offset (R323). -/
def execLsrSp1 (ff : Byte) (s : State) : Result := modifyMemory logicalShiftRight (.sp1 ff) s

/-- `LSRA` (R323). -/
def execLsra (s : State) : Result := modifyA logicalShiftRight s

/-- `LSRX` (R323). -/
def execLsrx (s : State) : Result := modifyX logicalShiftRight s

/-- `ROL`, direct (R324). -/
def execRolDir (dd : Byte) (s : State) : Result := modifyMemory rotateLeft (.dir dd) s

/-- `ROL`, indexed, 8-bit offset (R324). -/
def execRolIx1 (ff : Byte) (s : State) : Result := modifyMemory rotateLeft (.ix1 ff) s

/-- `ROL`, indexed (R324). -/
def execRolIx (s : State) : Result := modifyMemory rotateLeft .ix s

/-- `ROL`, stack pointer, 8-bit offset (R324). -/
def execRolSp1 (ff : Byte) (s : State) : Result := modifyMemory rotateLeft (.sp1 ff) s

/-- `ROLA` (R324). -/
def execRola (s : State) : Result := modifyA rotateLeft s

/-- `ROLX` (R324). -/
def execRolx (s : State) : Result := modifyX rotateLeft s

/-- `ROR`, direct (R325). -/
def execRorDir (dd : Byte) (s : State) : Result := modifyMemory rotateRight (.dir dd) s

/-- `ROR`, indexed, 8-bit offset (R325). -/
def execRorIx1 (ff : Byte) (s : State) : Result := modifyMemory rotateRight (.ix1 ff) s

/-- `ROR`, indexed (R325). -/
def execRorIx (s : State) : Result := modifyMemory rotateRight .ix s

/-- `ROR`, stack pointer, 8-bit offset (R325). -/
def execRorSp1 (ff : Byte) (s : State) : Result := modifyMemory rotateRight (.sp1 ff) s

/-- `RORA` (R325). -/
def execRora (s : State) : Result := modifyA rotateRight s

/-- `RORX` (R325). -/
def execRorx (s : State) : Result := modifyX rotateRight s

end Sys2Proof.Machine
end

