-- ==== Sys2Proof/Machine/Stack.lean ====
section
/-!
DEFINITION. Stack and register-transfer instructions (47_stack_transfer.md R420 to R442).
-/

namespace Sys2Proof.Machine

/-- `PSHA` (R422). -/
def execPsha (s : State) : Result := finish (push8 s.a s)

/-- `PSHH` (R423). -/
def execPshh (s : State) : Result := finish (push8 s.h s)

/-- `PSHX` (R424). -/
def execPshx (s : State) : Result := finish (push8 s.x s)

/-- `PULA` (R425). -/
def execPula (s : State) : Result := finish <| (pull8 s).andThen fun v s => .ok () { s with a := v }

/-- `PULH` (R426). -/
def execPulh (s : State) : Result := finish <| (pull8 s).andThen fun v s => .ok () { s with h := v }

/-- `PULX` (R427). -/
def execPulx (s : State) : Result := finish <| (pull8 s).andThen fun v s => .ok () { s with x := v }

/-- `TSX` (R430). -/
def execTsx (s : State) : Result := .next (s.setHx (s.sp + 1))

/-- `TXS` (R431). -/
def execTxs (s : State) : Result := .next { s with sp := s.hx - 1 }

/-- `RSP`: the low byte only (R440, 10_state.md R25). -/
def execRsp (s : State) : Result := .next { s with sp := (s.sp &&& 0xFF00) ||| 0x00FF }

/-- `TAX` (R441). -/
def execTax (s : State) : Result := .next { s with x := s.a }

/-- `TXA` (R442). -/
def execTxa (s : State) : Result := .next { s with a := s.x }

end Sys2Proof.Machine
end

