-- ==== Sys2Proof/Machine/Fetch.lean ====
section
/-!
DEFINITION. Fetching an instruction: its bytes are read from the one memory, in address order, before
its first data access (30_encoding.md R102, 20_memory.md R61, R67, 40_addressing_modes.md R142), and
the opcode byte may be the one an instruction just overwrote (70_reset_and_hazards.md R590).
-/

namespace Sys2Proof.Machine

/-- What stood at the program counter: an instruction, or the bytes of an unassigned opcode. -/
inductive Fetched where
  | instr (i : Instr)
  | unassigned (bytes : List Byte)
  deriving DecidableEq, Repr

/-- `fetch8()`: read at `PC`, then increment it (00_scope.md R12). -/
def fetch8 (s : State) : Bus Byte :=
  (busRead s.pc s).andThen fun b s => .ok b { s with pc := s.pc + 1 }

/-- What a byte of RAM held before the last instruction wrote it, if that instruction did. -/
def overwritten (s : State) (a : Word) : Option Byte :=
  (s.recent.find? (fun w => decide (w.addr = a))).map Written.old

/-- The fetch of the first byte of an instruction. If the instruction before wrote this byte, the one
decoded is drawn from the byte before that write and the byte after it; memory holds the new one
(70_reset_and_hazards.md R590, D14). -/
def fetchOpcode (s : State) : Bus Byte :=
  (fetch8 s).andThen fun b s' =>
    match overwritten s s.pc with
    | none => .ok b { s' with recent := [] }
    | some old =>
      .ok (if Config.freeBit s'.draws then old else b)
        { s' with recent := [], draws := s'.draws + 1 }

/-- The operand bytes a cell of the opcode map asks for (30_encoding.md R102). -/
def fetchOperands (form : Form) (s : State) : Bus Fetched :=
  match form with
  | .inherent i => .ok (.instr i) s
  | .oneByte make => (fetch8 s).andThen fun b s => .ok (.instr (make b)) s
  | .twoBytes make =>
    (fetch8 s).andThen fun b s => (fetch8 s).andThen fun c s => .ok (.instr (make b c)) s
  | .oneWord make =>
    (fetch8 s).andThen fun b s => (fetch8 s).andThen fun c s => .ok (.instr (make (wordOf b c))) s

/-- Fetch and decode one instruction (30_encoding.md R102): of an unassigned opcode only the opcode
byte is read, and after the pre-byte one byte more (60_exceptions.md R505). -/
def fetchInstr (s : State) : Bus Fetched :=
  (fetchOpcode s).andThen fun op s =>
    if op = prebyte then
      (fetch8 s).andThen fun op2 s =>
        match prebytePage op2 with
        | some form => fetchOperands form s
        | none => .ok (.unassigned [op, op2]) s
    else
      match pageOne op with
      | some form => fetchOperands form s
      | none => .ok (.unassigned [op]) s

/-- An unassigned opcode: the illegal-opcode reset where the device has it, a refusal where it has not
(60_exceptions.md R505, 30_encoding.md R112, D2). DESIGN CHOICE, log entry 18: a reset event that is due
right after the last opcode byte was fetched (R502, "after any prefix of that instruction's bus
accesses") is performed before either, whatever the device has. -/
def illegalOpcode (bytes : List Byte) (s : State) : Result :=
  match s.resetIn with
  | some ⟨source, 0⟩ => .next (resetCpu source s)
  | _ =>
    if s.device.resetSources.contains .illegalOpcode then .next (resetCpu .illegalOpcode s)
    else .refused (.illegalOpcode bytes)

end Sys2Proof.Machine
end

