-- ==== Sys2Proof/Machine/Step.lean ====
section
/-!
DEFINITION. One step of the machine (60_exceptions.md R510): a reset, an interrupt entry, or one
instruction; in the low-power states, the wait for a request. It calls the definitions of the other
files and adds nothing.
-/

namespace Sys2Proof.Machine

/-- Execute the instruction at the program counter (R510). -/
def runInstruction (s : State) : Result :=
  match fetchInstr s with
  | .ok (.instr i) s => exec i s
  | .ok (.unassigned bytes) s => illegalOpcode bytes s
  | .cut source s => .next (resetCpu source s)

/-- A boundary while running: the interrupt check comes before the fetch (R510, D32). -/
def runningStep (s : State) : Result :=
  match recognise s with
  | some n => finish (interruptEntry n (closeWindow s))
  | none => runInstruction (closeWindow s)

/-- `step()` after the environment's input (R510). -/
def boundary (s : State) : Result :=
  match s.resetIn with
  | some ⟨source, 0⟩ => .next (resetCpu source s)
  | _ =>
    match s.run with
    | .running => runningStep s
    | .waiting => wake (pendingLine s) s
    | .stopped => wake (wakingLine s) s

/-- One step of the machine (R510). -/
def step (s : State) : Host.Outcome State Fault Refusal := boundary (takeInput s)

/-- Put a byte into memory from outside the machine, whatever the address is mapped as. -/
def State.load (s : State) (a : Word) (b : Byte) : State :=
  { s with mem := s.mem.write a.toNat b }

/-- Put bytes into memory from outside the machine at rising addresses. -/
def State.loadBytes (s : State) (a : Word) : List Byte → State
  | [] => s
  | b :: bs => State.loadBytes (s.load a b) (a + 1) bs

/-- The instruction of a word of spec/opcode_table.json, loaded where the next step fetches: at `PC`. -/
def State.withFetchWord (s : State) (nbits w : Nat) : State :=
  s.loadBytes s.pc (tableBytes nbits (w % 2 ^ nbits))

end Sys2Proof.Machine
end

