-- ==== Sys2Proof/Families.lean ====
section
/-!
DEFINITION. The rows of the opcode table that share a mnemonic, as one function of the addressing
mode or of the bit number (40_addressing_modes.md R163): the terms in which a claim about an
instruction covers every form of it.
-/

namespace Sys2Proof

/-- `SUB` in each of its eight modes. -/
def Instr.subOf : Operand → Instr
  | .imm ii => .subImm ii
  | .mem (.dir dd) => .subDir dd
  | .mem (.ext hhll) => .subExt hhll
  | .mem (.ix2 eeff) => .subIx2 eeff
  | .mem (.ix1 ff) => .subIx1 ff
  | .mem .ix => .subIx
  | .mem (.sp2 eeff) => .subSp2 eeff
  | .mem (.sp1 ff) => .subSp1 ff

/-- `CMP` in each of its eight modes. -/
def Instr.cmpOf : Operand → Instr
  | .imm ii => .cmpImm ii
  | .mem (.dir dd) => .cmpDir dd
  | .mem (.ext hhll) => .cmpExt hhll
  | .mem (.ix2 eeff) => .cmpIx2 eeff
  | .mem (.ix1 ff) => .cmpIx1 ff
  | .mem .ix => .cmpIx
  | .mem (.sp2 eeff) => .cmpSp2 eeff
  | .mem (.sp1 ff) => .cmpSp1 ff

/-- `SBC` in each of its eight modes. -/
def Instr.sbcOf : Operand → Instr
  | .imm ii => .sbcImm ii
  | .mem (.dir dd) => .sbcDir dd
  | .mem (.ext hhll) => .sbcExt hhll
  | .mem (.ix2 eeff) => .sbcIx2 eeff
  | .mem (.ix1 ff) => .sbcIx1 ff
  | .mem .ix => .sbcIx
  | .mem (.sp2 eeff) => .sbcSp2 eeff
  | .mem (.sp1 ff) => .sbcSp1 ff

/-- `CPX` in each of its eight modes. -/
def Instr.cpxOf : Operand → Instr
  | .imm ii => .cpxImm ii
  | .mem (.dir dd) => .cpxDir dd
  | .mem (.ext hhll) => .cpxExt hhll
  | .mem (.ix2 eeff) => .cpxIx2 eeff
  | .mem (.ix1 ff) => .cpxIx1 ff
  | .mem .ix => .cpxIx
  | .mem (.sp2 eeff) => .cpxSp2 eeff
  | .mem (.sp1 ff) => .cpxSp1 ff

/-- `AND` in each of its eight modes. -/
def Instr.andOf : Operand → Instr
  | .imm ii => .andImm ii
  | .mem (.dir dd) => .andDir dd
  | .mem (.ext hhll) => .andExt hhll
  | .mem (.ix2 eeff) => .andIx2 eeff
  | .mem (.ix1 ff) => .andIx1 ff
  | .mem .ix => .andIx
  | .mem (.sp2 eeff) => .andSp2 eeff
  | .mem (.sp1 ff) => .andSp1 ff

/-- `BIT` in each of its eight modes. -/
def Instr.bitOf : Operand → Instr
  | .imm ii => .bitImm ii
  | .mem (.dir dd) => .bitDir dd
  | .mem (.ext hhll) => .bitExt hhll
  | .mem (.ix2 eeff) => .bitIx2 eeff
  | .mem (.ix1 ff) => .bitIx1 ff
  | .mem .ix => .bitIx
  | .mem (.sp2 eeff) => .bitSp2 eeff
  | .mem (.sp1 ff) => .bitSp1 ff

/-- `LDA` in each of its eight modes. -/
def Instr.ldaOf : Operand → Instr
  | .imm ii => .ldaImm ii
  | .mem (.dir dd) => .ldaDir dd
  | .mem (.ext hhll) => .ldaExt hhll
  | .mem (.ix2 eeff) => .ldaIx2 eeff
  | .mem (.ix1 ff) => .ldaIx1 ff
  | .mem .ix => .ldaIx
  | .mem (.sp2 eeff) => .ldaSp2 eeff
  | .mem (.sp1 ff) => .ldaSp1 ff

/-- `EOR` in each of its eight modes. -/
def Instr.eorOf : Operand → Instr
  | .imm ii => .eorImm ii
  | .mem (.dir dd) => .eorDir dd
  | .mem (.ext hhll) => .eorExt hhll
  | .mem (.ix2 eeff) => .eorIx2 eeff
  | .mem (.ix1 ff) => .eorIx1 ff
  | .mem .ix => .eorIx
  | .mem (.sp2 eeff) => .eorSp2 eeff
  | .mem (.sp1 ff) => .eorSp1 ff

/-- `ADC` in each of its eight modes. -/
def Instr.adcOf : Operand → Instr
  | .imm ii => .adcImm ii
  | .mem (.dir dd) => .adcDir dd
  | .mem (.ext hhll) => .adcExt hhll
  | .mem (.ix2 eeff) => .adcIx2 eeff
  | .mem (.ix1 ff) => .adcIx1 ff
  | .mem .ix => .adcIx
  | .mem (.sp2 eeff) => .adcSp2 eeff
  | .mem (.sp1 ff) => .adcSp1 ff

/-- `ORA` in each of its eight modes. -/
def Instr.oraOf : Operand → Instr
  | .imm ii => .oraImm ii
  | .mem (.dir dd) => .oraDir dd
  | .mem (.ext hhll) => .oraExt hhll
  | .mem (.ix2 eeff) => .oraIx2 eeff
  | .mem (.ix1 ff) => .oraIx1 ff
  | .mem .ix => .oraIx
  | .mem (.sp2 eeff) => .oraSp2 eeff
  | .mem (.sp1 ff) => .oraSp1 ff

/-- `ADD` in each of its eight modes. -/
def Instr.addOf : Operand → Instr
  | .imm ii => .addImm ii
  | .mem (.dir dd) => .addDir dd
  | .mem (.ext hhll) => .addExt hhll
  | .mem (.ix2 eeff) => .addIx2 eeff
  | .mem (.ix1 ff) => .addIx1 ff
  | .mem .ix => .addIx
  | .mem (.sp2 eeff) => .addSp2 eeff
  | .mem (.sp1 ff) => .addSp1 ff

/-- `LDX` in each of its eight modes. -/
def Instr.ldxOf : Operand → Instr
  | .imm ii => .ldxImm ii
  | .mem (.dir dd) => .ldxDir dd
  | .mem (.ext hhll) => .ldxExt hhll
  | .mem (.ix2 eeff) => .ldxIx2 eeff
  | .mem (.ix1 ff) => .ldxIx1 ff
  | .mem .ix => .ldxIx
  | .mem (.sp2 eeff) => .ldxSp2 eeff
  | .mem (.sp1 ff) => .ldxSp1 ff

/-- `STA` in each of its seven modes. -/
def Instr.staOf : Addr → Instr
  | .dir dd => .staDir dd
  | .ext hhll => .staExt hhll
  | .ix2 eeff => .staIx2 eeff
  | .ix1 ff => .staIx1 ff
  | .ix => .staIx
  | .sp2 eeff => .staSp2 eeff
  | .sp1 ff => .staSp1 ff

/-- `STX` in each of its seven modes. -/
def Instr.stxOf : Addr → Instr
  | .dir dd => .stxDir dd
  | .ext hhll => .stxExt hhll
  | .ix2 eeff => .stxIx2 eeff
  | .ix1 ff => .stxIx1 ff
  | .ix => .stxIx
  | .sp2 eeff => .stxSp2 eeff
  | .sp1 ff => .stxSp1 ff

/-- `JMP` in each of its five modes. -/
def Instr.jmpOf : JumpAddr → Instr
  | .dir dd => .jmpDir dd
  | .ext hhll => .jmpExt hhll
  | .ix2 eeff => .jmpIx2 eeff
  | .ix1 ff => .jmpIx1 ff
  | .ix => .jmpIx

/-- `JSR` in each of its five modes. -/
def Instr.jsrOf : JumpAddr → Instr
  | .dir dd => .jsrDir dd
  | .ext hhll => .jsrExt hhll
  | .ix2 eeff => .jsrIx2 eeff
  | .ix1 ff => .jsrIx1 ff
  | .ix => .jsrIx

/-- `NEG` on memory in each of its four modes. -/
def Instr.negOf : RmwAddr → Instr
  | .dir dd => .negDir dd
  | .ix1 ff => .negIx1 ff
  | .ix => .negIx
  | .sp1 ff => .negSp1 ff

/-- `COM` on memory in each of its four modes. -/
def Instr.comOf : RmwAddr → Instr
  | .dir dd => .comDir dd
  | .ix1 ff => .comIx1 ff
  | .ix => .comIx
  | .sp1 ff => .comSp1 ff

/-- `LSR` on memory in each of its four modes. -/
def Instr.lsrOf : RmwAddr → Instr
  | .dir dd => .lsrDir dd
  | .ix1 ff => .lsrIx1 ff
  | .ix => .lsrIx
  | .sp1 ff => .lsrSp1 ff

/-- `ROR` on memory in each of its four modes. -/
def Instr.rorOf : RmwAddr → Instr
  | .dir dd => .rorDir dd
  | .ix1 ff => .rorIx1 ff
  | .ix => .rorIx
  | .sp1 ff => .rorSp1 ff

/-- `ASR` on memory in each of its four modes. -/
def Instr.asrOf : RmwAddr → Instr
  | .dir dd => .asrDir dd
  | .ix1 ff => .asrIx1 ff
  | .ix => .asrIx
  | .sp1 ff => .asrSp1 ff

/-- `LSL` on memory in each of its four modes. -/
def Instr.lslOf : RmwAddr → Instr
  | .dir dd => .lslDir dd
  | .ix1 ff => .lslIx1 ff
  | .ix => .lslIx
  | .sp1 ff => .lslSp1 ff

/-- `ROL` on memory in each of its four modes. -/
def Instr.rolOf : RmwAddr → Instr
  | .dir dd => .rolDir dd
  | .ix1 ff => .rolIx1 ff
  | .ix => .rolIx
  | .sp1 ff => .rolSp1 ff

/-- `DEC` on memory in each of its four modes. -/
def Instr.decOf : RmwAddr → Instr
  | .dir dd => .decDir dd
  | .ix1 ff => .decIx1 ff
  | .ix => .decIx
  | .sp1 ff => .decSp1 ff

/-- `INC` on memory in each of its four modes. -/
def Instr.incOf : RmwAddr → Instr
  | .dir dd => .incDir dd
  | .ix1 ff => .incIx1 ff
  | .ix => .incIx
  | .sp1 ff => .incSp1 ff

/-- `TST` on memory in each of its four modes. -/
def Instr.tstOf : RmwAddr → Instr
  | .dir dd => .tstDir dd
  | .ix1 ff => .tstIx1 ff
  | .ix => .tstIx
  | .sp1 ff => .tstSp1 ff

/-- `CLR` on memory in each of its four modes. -/
def Instr.clrOf : RmwAddr → Instr
  | .dir dd => .clrDir dd
  | .ix1 ff => .clrIx1 ff
  | .ix => .clrIx
  | .sp1 ff => .clrSp1 ff

/-- `DBNZ` on memory in each of its four modes. -/
def Instr.dbnzOf : RmwAddr → Byte → Instr
  | .dir dd, rr => .dbnzDir dd rr
  | .ix1 ff, rr => .dbnzIx1 ff rr
  | .ix, rr => .dbnzIx rr
  | .sp1 ff, rr => .dbnzSp1 ff rr

/-- `BRSET n`, the bit number in the opcode (30_encoding.md R106). -/
def Instr.brsetOf : Fin 8 → Byte → Byte → Instr
  | 0, dd, rr => .brset0 dd rr
  | 1, dd, rr => .brset1 dd rr
  | 2, dd, rr => .brset2 dd rr
  | 3, dd, rr => .brset3 dd rr
  | 4, dd, rr => .brset4 dd rr
  | 5, dd, rr => .brset5 dd rr
  | 6, dd, rr => .brset6 dd rr
  | 7, dd, rr => .brset7 dd rr

/-- `BRCLR n`, the bit number in the opcode (30_encoding.md R106). -/
def Instr.brclrOf : Fin 8 → Byte → Byte → Instr
  | 0, dd, rr => .brclr0 dd rr
  | 1, dd, rr => .brclr1 dd rr
  | 2, dd, rr => .brclr2 dd rr
  | 3, dd, rr => .brclr3 dd rr
  | 4, dd, rr => .brclr4 dd rr
  | 5, dd, rr => .brclr5 dd rr
  | 6, dd, rr => .brclr6 dd rr
  | 7, dd, rr => .brclr7 dd rr

/-- `BSET n`, the bit number in the opcode (30_encoding.md R106). -/
def Instr.bsetOf : Fin 8 → Byte → Instr
  | 0, dd => .bset0 dd
  | 1, dd => .bset1 dd
  | 2, dd => .bset2 dd
  | 3, dd => .bset3 dd
  | 4, dd => .bset4 dd
  | 5, dd => .bset5 dd
  | 6, dd => .bset6 dd
  | 7, dd => .bset7 dd

/-- `BCLR n`, the bit number in the opcode (30_encoding.md R106). -/
def Instr.bclrOf : Fin 8 → Byte → Instr
  | 0, dd => .bclr0 dd
  | 1, dd => .bclr1 dd
  | 2, dd => .bclr2 dd
  | 3, dd => .bclr3 dd
  | 4, dd => .bclr4 dd
  | 5, dd => .bclr5 dd
  | 6, dd => .bclr6 dd
  | 7, dd => .bclr7 dd

end Sys2Proof
end

