-- ==== Sys2Proof/Safety.lean ====
section
/-!
DEFINITION. The terms in which claims about the machine are made: what a bus access leaves unchanged,
the invariant every step keeps, the runs in which no reset cuts an instruction short, and the spec's
own tables of which instructions write which flags (10_state.md R35) and which change `H`
(40_addressing_modes.md R162).
-/

namespace Sys2Proof.Machine

/-- A read changes nothing of the machine but the environment's side of the interface (the reset under
way is one access nearer, an I/O value is supplied and its read seen) and the count of free values
drawn: every register, every flag and every byte of memory is as before. -/
def ReadFrame (s t : State) : Prop :=
  t = { s with resetIn := t.resetIn, ioIn := t.ioIn, ioLog := t.ioLog, draws := t.draws } ∧
  ∀ b : Word, t.byteAt b = s.byteAt b

/-- Writes at the addresses `stored` change nothing else of the machine but the environment's side of
the interface and the record of the bytes written: every register and flag is as before, and so is
every byte of memory at any other address. -/
def WriteFrame (stored : List Word) (s t : State) : Prop :=
  t = { s with mem := t.mem, recent := t.recent, resetIn := t.resetIn, ioIn := t.ioIn,
               ioLog := t.ioLog, draws := t.draws } ∧
  ∀ b : Word, b ∉ stored → t.byteAt b = s.byteAt b

/-- A byte stands at an address after a write to it: RAM holds it, and nothing else does
(20_memory.md R75, R77, R79). -/
def Stored (a : Word) (v : Byte) (s t : State) : Prop :=
  if regionKind s.device a = .ram then t.byteAt a = v else t.byteAt a = s.byteAt a

/-- No reset is under way and no address is illegal: no access of an instruction is cut short. -/
def Uncut (s : State) : Prop := s.resetIn = none ∧ s.device.illegalAddr = []

/-- A reset is due: it comes before anything else the machine does. -/
def ResetDue (s : State) : Prop := ∃ source, s.resetIn = some ⟨source, 0⟩

/-- The CPU can access an address: it is not illegal and no reset is under way. -/
def Accessible (s : State) (a : Word) : Prop := s.resetIn = none ∧ isIllegal s.device a = false

/-- An address holds RAM the CPU can access. -/
def IsRam (s : State) (a : Word) : Prop :=
  regionKind s.device a = .ram ∧ isIllegal s.device a = false

/-- An address holds RAM or ROM the CPU can access. -/
def IsMemory (s : State) (a : Word) : Prop :=
  (regionKind s.device a = .ram ∨ regionKind s.device a = .rom) ∧ isIllegal s.device a = false

/-- The bytes in memory from an address on. -/
def bytesAt (s : State) (a : Word) : Nat → List Byte
  | 0 => []
  | n + 1 => s.byteAt a :: bytesAt s (a + 1) n

/-- An instruction completes in a state, with every byte of memory as before. -/
def Completes (i : Instr) (s t : State) : Prop :=
  exec i s = .next t ∧ ∀ b : Word, t.byteAt b = s.byteAt b

/-- An instruction completes in a state, with every byte of memory as before but those stored to. -/
def CompletesStoring (stored : List Word) (i : Instr) (s t : State) : Prop :=
  exec i s = .next t ∧ ∀ b : Word, b ∉ stored → t.byteAt b = s.byteAt b

/-! ### Shapes of claims about one instruction

Each says: on every state and operands on which the accesses the instruction makes complete (no reset
falls in them), the instruction completes in the state given, and nothing else has changed. -/

/-- An instruction on an 8-bit operand, in every one of its modes: it reads the operand once. -/
def OperandClaim (make : Operand → Instr) (result : Byte → State → State) : Prop :=
  ∀ (op : Operand) (m : Byte) (s s1 : State), readOperand op s = .ok m s1 →
    Completes (make op) s (result m s1) ∧ ReadFrame s s1

/-- An instruction that reads one byte of memory. -/
def ReadClaim (i : Instr) (ea : State → Word) (result : Byte → State → State) : Prop :=
  ∀ (v : Byte) (s s1 : State), busRead (ea s) s = .ok v s1 →
    Completes i s (result v s1) ∧ ReadFrame s s1

/-- An instruction that writes one byte of memory and reads none. -/
def WriteClaim (i : Instr) (ea : State → Word) (value : State → Byte) (result : State → State) :
    Prop :=
  ∀ (s s1 : State), busWrite (ea s) (value s) s = .ok () s1 →
    CompletesStoring [ea s] i s (result s1) ∧ WriteFrame [ea s] s s1 ∧ Stored (ea s) (value s) s s1

/-- An instruction that reads one byte of memory and then writes one, at the same or another address. -/
def ReadWriteClaim (i : Instr) (source dest : State → Word) (value : Byte → Ccr → Byte)
    (result : Byte → State → State) : Prop :=
  ∀ (v : Byte) (s s1 s2 : State), busRead (source s) s = .ok v s1 →
    busWrite (dest s) (value v s.ccr) s1 = .ok () s2 →
    CompletesStoring [dest s] i s (result v s2) ∧ ReadFrame s s1 ∧ WriteFrame [dest s] s1 s2 ∧
      Stored (dest s) (value v s.ccr) s1 s2

/-- A one-byte function in every form of the read-modify-write group: on memory in four modes, on `A`
and on `X` (42_arithmetic.md R220). -/
def RmwClaim (memory : RmwAddr → Instr) (onA onX : Instr) (f : Byte → Ccr → Byte × Ccr) : Prop :=
  (∀ m, ReadWriteClaim (memory m) (effectiveAddress m.addr) (effectiveAddress m.addr)
    (fun v c => (f v c).1) (fun v t => { t with ccr := (f v t.ccr).2 })) ∧
  (∀ s, Completes onA s { s with a := (f s.a s.ccr).1, ccr := (f s.a s.ccr).2 }) ∧
  (∀ s, Completes onX s { s with x := (f s.x s.ccr).1, ccr := (f s.x s.ccr).2 })

/-- The sequence of accesses by which an exception is taken, and the state it ends in
(48_control_system.md R461, 60_exceptions.md R530, R532): five writes downward from `SP` (`PC` low
byte, `PC` high byte, `X`, `A`, CCR), then two reads of the vector. `start` is what precedes the
first write (nothing, or forgetting the bytes the last instruction wrote). -/
def EntryClaim (enter : State → Result) (start : State → State) (vector : State → Word) : Prop :=
  ∀ (s s1 s2 s3 s4 s5 s6 s7 : State) (hi lo : Byte),
    busWrite s.sp (loByte s.pc) (start s) = .ok () s1 →
    busWrite (s.sp - 1) (hiByte s.pc) s1 = .ok () s2 →
    busWrite (s.sp - 2) s.x s2 = .ok () s3 →
    busWrite (s.sp - 3) s.a s3 = .ok () s4 →
    busWrite (s.sp - 4) (ccrByte s.ccr) s4 = .ok () s5 →
    busRead (vector s) s5 = .ok hi s6 →
    busRead (vector s + 1) s6 = .ok lo s7 →
    enter s = .next
      { s7 with
        sp := s.sp - 5, ccr := { s.ccr with i := true }, iWindow := none, pc := wordOf hi lo } ∧
    WriteFrame [s.sp, s.sp - 1, s.sp - 2, s.sp - 3, s.sp - 4] s s7 ∧
    Stored s.sp (loByte s.pc) s s7 ∧ Stored (s.sp - 1) (hiByte s.pc) s s7 ∧
    Stored (s.sp - 2) s.x s s7 ∧ Stored (s.sp - 3) s.a s s7 ∧ Stored (s.sp - 4) (ccrByte s.ccr) s s7

/-! ### The source's Boolean formulae (42_arithmetic.md R221, R223, R227) -/

/-- Two's complement overflow of a sum: `A&M&!R | !A&!M&R` on the sign bits. -/
def overflowOfSum (a m r : Bool) : Bool := (a && m && !r) || (!a && !m && r)

/-- The carry of a sum out of a bit: `A&M | M&!R | !R&A` on that bit. -/
def carryOfSum (a m r : Bool) : Bool := (a && m) || (m && !r) || (!r && a)

/-- Two's complement overflow of a difference: `A&!M&!R | !A&M&R` on the sign bits. -/
def overflowOfDifference (a m r : Bool) : Bool := (a && !m && !r) || (!a && m && r)

/-- The borrow of a difference: `!A&M | M&R | R&!A` on the sign bits. -/
def borrowOfDifference (a m r : Bool) : Bool := (!a && m) || (m && r) || (r && !a)

/-- The invariant of the machine: memory is in canonical form; an open window holds the complement of
the mask (10_state.md R47: kept only when the instruction changed `I`); and in a low-power state the
mask is clear and no window is open (60_exceptions.md R513, R543). -/
def Invariant (s : State) : Prop :=
  s.mem.wf = true ∧
  (s.iWindow = none ∨ s.iWindow = some (!s.ccr.i)) ∧
  (s.run ≠ .running → s.ccr.i = false ∧ s.iWindow = none)

/-- A mark of the flag-write summary (00_scope.md R14): the flag is left, set, cleared, or given some
value by the instruction's own rule. -/
inductive FlagMark where
  | keep
  | set
  | clear
  | any
  deriving DecidableEq, Repr

/-- What a mark allows of a flag before and after an instruction. -/
def FlagMark.allows (m : FlagMark) (before after : Bool) : Bool :=
  match m with
  | .keep => after == before
  | .set => after
  | .clear => !after
  | .any => true

/-- The marks of the six flags. -/
structure FlagMarks where
  v : FlagMark
  h : FlagMark
  i : FlagMark
  n : FlagMark
  z : FlagMark
  c : FlagMark
  deriving DecidableEq, Repr

/-- The flags before and after are as the marks say. -/
def FlagMarks.allow (m : FlagMarks) (before after : Ccr) : Bool :=
  m.v.allows before.v after.v && m.h.allows before.h after.h && m.i.allows before.i after.i
    && m.n.allows before.n after.n && m.z.allows before.z after.z && m.c.allows before.c after.c

/-- The flag-write summary (10_state.md R35). -/
def flagMarks : Instr → FlagMarks
  | .adcImm _ | .addImm _ | .adcDir _ | .addDir _ | .adcExt _ | .addExt _ | .adcIx2 _ |
    .addIx2 _ | .adcIx1 _ | .addIx1 _ | .adcSp2 _ | .addSp2 _ | .adcSp1 _ | .addSp1 _ | .adcIx |
    .addIx => ⟨.any, .any, .keep, .any, .any, .any⟩
  | .negDir _ | .rorDir _ | .asrDir _ | .lslDir _ | .rolDir _ | .negIx1 _ | .cphxImm _ |
    .rorIx1 _ | .asrIx1 _ | .lslIx1 _ | .rolIx1 _ | .cphxDir _ | .subImm _ | .cmpImm _ |
    .sbcImm _ | .cpxImm _ | .subDir _ | .cmpDir _ | .sbcDir _ | .cpxDir _ | .subExt _ |
    .cmpExt _ | .sbcExt _ | .cpxExt _ | .subIx2 _ | .cmpIx2 _ | .sbcIx2 _ | .cpxIx2 _ |
    .subIx1 _ | .cmpIx1 _ | .sbcIx1 _ | .cpxIx1 _ | .negSp1 _ | .rorSp1 _ | .asrSp1 _ |
    .lslSp1 _ | .rolSp1 _ | .subSp2 _ | .cmpSp2 _ | .sbcSp2 _ | .cpxSp2 _ | .subSp1 _ |
    .cmpSp1 _ | .sbcSp1 _ | .cpxSp1 _ | .nega | .rora | .asra | .lsla | .rola | .negx | .rorx |
    .asrx | .lslx | .rolx | .negIx | .daa | .rorIx | .asrIx | .lslIx | .rolIx | .subIx | .cmpIx |
    .sbcIx | .cpxIx => ⟨.any, .keep, .keep, .any, .any, .any⟩
  | .lsrDir _ | .lsrIx1 _ | .lsrSp1 _ | .lsra | .lsrx |
    .lsrIx => ⟨.any, .keep, .keep, .clear, .any, .any⟩
  | .decDir _ | .incDir _ | .decIx1 _ | .incIx1 _ | .decSp1 _ | .incSp1 _ | .deca | .inca |
    .decx | .incx | .decIx | .incIx => ⟨.any, .keep, .keep, .any, .any, .keep⟩
  | .sthx _ | .tstDir _ | .ldhxImm _ | .movDirDir _ _ | .ldhxDir _ | .movDirIxInc _ | .tstIx1 _ |
    .movImmDir _ _ | .movIxIncDir _ | .andImm _ | .bitImm _ | .ldaImm _ | .eorImm _ | .oraImm _ |
    .ldxImm _ | .andDir _ | .bitDir _ | .ldaDir _ | .staDir _ | .eorDir _ | .oraDir _ |
    .ldxDir _ | .stxDir _ | .andExt _ | .bitExt _ | .ldaExt _ | .staExt _ | .eorExt _ |
    .oraExt _ | .ldxExt _ | .stxExt _ | .andIx2 _ | .bitIx2 _ | .ldaIx2 _ | .staIx2 _ |
    .eorIx2 _ | .oraIx2 _ | .ldxIx2 _ | .stxIx2 _ | .andIx1 _ | .bitIx1 _ | .ldaIx1 _ |
    .staIx1 _ | .eorIx1 _ | .oraIx1 _ | .ldxIx1 _ | .stxIx1 _ | .tstSp1 _ | .andSp2 _ |
    .bitSp2 _ | .ldaSp2 _ | .staSp2 _ | .eorSp2 _ | .oraSp2 _ | .ldxSp2 _ | .stxSp2 _ |
    .andSp1 _ | .bitSp1 _ | .ldaSp1 _ | .staSp1 _ | .eorSp1 _ | .oraSp1 _ | .ldxSp1 _ |
    .stxSp1 _ | .tsta | .tstx | .tstIx | .andIx | .bitIx | .ldaIx | .staIx | .eorIx | .oraIx |
    .ldxIx | .stxIx => ⟨.clear, .keep, .keep, .any, .any, .keep⟩
  | .comDir _ | .comIx1 _ | .comSp1 _ | .coma | .comx |
    .comIx => ⟨.clear, .keep, .keep, .any, .any, .set⟩
  | .clrDir _ | .clrIx1 _ | .clrSp1 _ | .clra | .clrx | .clrIx |
    .clrh => ⟨.clear, .keep, .keep, .clear, .set, .keep⟩
  | .div => ⟨.keep, .keep, .keep, .keep, .any, .any⟩
  | .mul => ⟨.keep, .clear, .keep, .keep, .keep, .clear⟩
  | .brset0 _ _ | .brclr0 _ _ | .brset1 _ _ | .brclr1 _ _ | .brset2 _ _ | .brclr2 _ _ |
    .brset3 _ _ | .brclr3 _ _ | .brset4 _ _ | .brclr4 _ _ | .brset5 _ _ | .brclr5 _ _ |
    .brset6 _ _ | .brclr6 _ _ | .brset7 _ _ |
    .brclr7 _ _ => ⟨.keep, .keep, .keep, .keep, .keep, .any⟩
  | .clc => ⟨.keep, .keep, .keep, .keep, .keep, .clear⟩
  | .sec => ⟨.keep, .keep, .keep, .keep, .keep, .set⟩
  | .stop | .wait | .cli => ⟨.keep, .keep, .clear, .keep, .keep, .keep⟩
  | .swi | .sei => ⟨.keep, .keep, .set, .keep, .keep, .keep⟩
  | .rti | .tap => ⟨.any, .any, .any, .any, .any, .any⟩
  | .bset0 _ | .bclr0 _ | .bset1 _ | .bclr1 _ | .bset2 _ | .bclr2 _ | .bset3 _ | .bclr3 _ |
    .bset4 _ | .bclr4 _ | .bset5 _ | .bclr5 _ | .bset6 _ | .bclr6 _ | .bset7 _ | .bclr7 _ |
    .bra _ | .brn _ | .bhi _ | .bls _ | .bcc _ | .bcs _ | .bne _ | .beq _ | .bhcc _ | .bhcs _ |
    .bpl _ | .bmi _ | .bmc _ | .bms _ | .bil _ | .bih _ | .cbeqDir _ _ | .dbnzDir _ _ |
    .cbeqa _ _ | .dbnza _ | .cbeqx _ _ | .dbnzx _ | .cbeqIx1Inc _ _ | .dbnzIx1 _ _ |
    .cbeqIxInc _ | .dbnzIx _ | .bge _ | .blt _ | .bgt _ | .ble _ | .ais _ | .bsr _ | .aix _ |
    .jmpDir _ | .jsrDir _ | .jmpExt _ | .jsrExt _ | .jmpIx2 _ | .jsrIx2 _ | .jmpIx1 _ |
    .jsrIx1 _ | .cbeqSp1 _ _ | .dbnzSp1 _ _ | .nsa | .rts | .tpa | .pula | .psha | .pulx |
    .pshx | .pulh | .pshh | .txs | .tsx | .tax | .rsp | .nop | .txa | .jmpIx |
    .jsrIx => ⟨.keep, .keep, .keep, .keep, .keep, .keep⟩

/-- The instructions that can change `H` (40_addressing_modes.md R162, "the complete set"). -/
def changesH : Instr → Bool
  | .ldhxImm _ | .ldhxDir _ | .movDirIxInc _ | .cbeqIx1Inc _ _ | .cbeqIxInc _ | .movIxIncDir _ |
    .aix _ | .div | .pulh | .clrh | .tsx => true
  | .brset0 _ _ | .brclr0 _ _ | .brset1 _ _ | .brclr1 _ _ | .brset2 _ _ | .brclr2 _ _ |
    .brset3 _ _ | .brclr3 _ _ | .brset4 _ _ | .brclr4 _ _ | .brset5 _ _ | .brclr5 _ _ |
    .brset6 _ _ | .brclr6 _ _ | .brset7 _ _ | .brclr7 _ _ | .bset0 _ | .bclr0 _ | .bset1 _ |
    .bclr1 _ | .bset2 _ | .bclr2 _ | .bset3 _ | .bclr3 _ | .bset4 _ | .bclr4 _ | .bset5 _ |
    .bclr5 _ | .bset6 _ | .bclr6 _ | .bset7 _ | .bclr7 _ | .bra _ | .brn _ | .bhi _ | .bls _ |
    .bcc _ | .bcs _ | .bne _ | .beq _ | .bhcc _ | .bhcs _ | .bpl _ | .bmi _ | .bmc _ | .bms _ |
    .bil _ | .bih _ | .negDir _ | .cbeqDir _ _ | .comDir _ | .lsrDir _ | .sthx _ | .rorDir _ |
    .asrDir _ | .lslDir _ | .rolDir _ | .decDir _ | .dbnzDir _ _ | .incDir _ | .tstDir _ |
    .clrDir _ | .cbeqa _ _ | .dbnza _ | .movDirDir _ _ | .cbeqx _ _ | .dbnzx _ | .negIx1 _ |
    .comIx1 _ | .lsrIx1 _ | .cphxImm _ | .rorIx1 _ | .asrIx1 _ | .lslIx1 _ | .rolIx1 _ |
    .decIx1 _ | .dbnzIx1 _ _ | .incIx1 _ | .tstIx1 _ | .movImmDir _ _ | .clrIx1 _ | .cphxDir _ |
    .dbnzIx _ | .bge _ | .blt _ | .bgt _ | .ble _ | .subImm _ | .cmpImm _ | .sbcImm _ |
    .cpxImm _ | .andImm _ | .bitImm _ | .ldaImm _ | .ais _ | .eorImm _ | .adcImm _ | .oraImm _ |
    .addImm _ | .bsr _ | .ldxImm _ | .subDir _ | .cmpDir _ | .sbcDir _ | .cpxDir _ | .andDir _ |
    .bitDir _ | .ldaDir _ | .staDir _ | .eorDir _ | .adcDir _ | .oraDir _ | .addDir _ |
    .jmpDir _ | .jsrDir _ | .ldxDir _ | .stxDir _ | .subExt _ | .cmpExt _ | .sbcExt _ |
    .cpxExt _ | .andExt _ | .bitExt _ | .ldaExt _ | .staExt _ | .eorExt _ | .adcExt _ |
    .oraExt _ | .addExt _ | .jmpExt _ | .jsrExt _ | .ldxExt _ | .stxExt _ | .subIx2 _ |
    .cmpIx2 _ | .sbcIx2 _ | .cpxIx2 _ | .andIx2 _ | .bitIx2 _ | .ldaIx2 _ | .staIx2 _ |
    .eorIx2 _ | .adcIx2 _ | .oraIx2 _ | .addIx2 _ | .jmpIx2 _ | .jsrIx2 _ | .ldxIx2 _ |
    .stxIx2 _ | .subIx1 _ | .cmpIx1 _ | .sbcIx1 _ | .cpxIx1 _ | .andIx1 _ | .bitIx1 _ |
    .ldaIx1 _ | .staIx1 _ | .eorIx1 _ | .adcIx1 _ | .oraIx1 _ | .addIx1 _ | .jmpIx1 _ |
    .jsrIx1 _ | .ldxIx1 _ | .stxIx1 _ | .negSp1 _ | .cbeqSp1 _ _ | .comSp1 _ | .lsrSp1 _ |
    .rorSp1 _ | .asrSp1 _ | .lslSp1 _ | .rolSp1 _ | .decSp1 _ | .dbnzSp1 _ _ | .incSp1 _ |
    .tstSp1 _ | .clrSp1 _ | .subSp2 _ | .cmpSp2 _ | .sbcSp2 _ | .cpxSp2 _ | .andSp2 _ |
    .bitSp2 _ | .ldaSp2 _ | .staSp2 _ | .eorSp2 _ | .adcSp2 _ | .oraSp2 _ | .addSp2 _ |
    .ldxSp2 _ | .stxSp2 _ | .subSp1 _ | .cmpSp1 _ | .sbcSp1 _ | .cpxSp1 _ | .andSp1 _ |
    .bitSp1 _ | .ldaSp1 _ | .staSp1 _ | .eorSp1 _ | .adcSp1 _ | .oraSp1 _ | .addSp1 _ |
    .ldxSp1 _ | .stxSp1 _ | .nega | .mul | .coma | .lsra | .rora | .asra | .lsla | .rola |
    .deca | .inca | .tsta | .clra | .negx | .comx | .lsrx | .rorx | .asrx | .lslx | .rolx |
    .decx | .incx | .tstx | .clrx | .nsa | .negIx | .daa | .comIx | .lsrIx | .rorIx | .asrIx |
    .lslIx | .rolIx | .decIx | .incIx | .tstIx | .clrIx | .rti | .rts | .swi | .tap | .tpa |
    .pula | .psha | .pulx | .pshx | .pshh | .stop | .wait | .txs | .tax | .clc | .sec | .cli |
    .sei | .rsp | .nop | .txa | .subIx | .cmpIx | .sbcIx | .cpxIx | .andIx | .bitIx | .ldaIx |
    .staIx | .eorIx | .adcIx | .oraIx | .addIx | .jmpIx | .jsrIx | .ldxIx | .stxIx => false

end Sys2Proof.Machine
end

