-- ==== Sys2Proof/Certificates/Slice0/Obligations.lean ====
section
/-!
DEFINITION. The statements for the provers. The shapes they are written in (`OperandClaim`,
`ReadClaim`, `RmwClaim`, …, each with its frame) and the terms of the invariant stand in
Sys2Proof/Safety.lean; the rows of the opcode table that share a mnemonic are one function of the
addressing mode in Sys2Proof/Families.lean.
-/

open Sys2Proof Sys2Proof.Machine

/-! ### Encoding -/

/-- 30_encoding.md R101, R102, R113: decoding the bytes of an instruction, with every operand at every
value, gives the instruction back and leaves the bytes after it. Every instruction is well formed. -/
def Obligations.DecodeEncode : Prop :=
  ∀ (i : Instr) (rest : List Byte), i.wf = true → decode (encode i ++ rest) = .ok (i, rest)

/-- 30_encoding.md R100, R102: a list of bytes that decodes to an instruction begins with exactly the
bytes of that instruction, so no bit of them is ignored and no two encodings give one instruction. -/
def Obligations.DecodeSound : Prop :=
  ∀ (bs rest : List Byte) (i : Instr), decode bs = .ok (i, rest) → bs = encode i ++ rest

/-- The six first bytes that are unassigned (30_encoding.md R112). -/
def unassignedFirst : List Byte := [0x32, 0x3E, 0x82, 0x8D, 0x96, 0xAC]

/-- The 41 bytes that the `$9E` page assigns (30_encoding.md R110). -/
def assignedAfterPrebyte : List Byte :=
  [0x60, 0x61, 0x63, 0x64, 0x66, 0x67, 0x68, 0x69, 0x6A, 0x6B, 0x6C, 0x6D, 0x6F,
   0xD0, 0xD1, 0xD2, 0xD3, 0xD4, 0xD5, 0xD6, 0xD7, 0xD8, 0xD9, 0xDA, 0xDB, 0xDE, 0xDF,
   0xE0, 0xE1, 0xE2, 0xE3, 0xE4, 0xE5, 0xE6, 0xE7, 0xE8, 0xE9, 0xEA, 0xEB, 0xEE, 0xEF]

/-- 30_encoding.md R112: the unassigned first bytes are exactly six, and after the pre-byte exactly the
215 bytes other than the 41 of the `$9E` page. -/
def Obligations.UnassignedOpcodes : Prop :=
  (∀ (op : Byte) (rest : List Byte), decode (op :: rest) = .error (.unassigned op) ↔
    op ∈ unassignedFirst) ∧
  (∀ (op : Byte) (rest : List Byte),
    decode (prebyte :: op :: rest) = .error (.unassignedAfterPrebyte op) ↔
      op ∉ assignedAfterPrebyte)

/-- Words written out from the Encoding lines of the instruction rules decode to their instructions:
`LDHX #$1234` (R183), `LDA $0250,SP` (R181), `BRSET 7,$16` (R380), `MOV $F0,$F1` (R188), `DBNZ $10,SP`
(R390), `JSR $1234` (R402), `ASLA` (R321), `BLT` (R367), `RTI` (R462). -/
def Obligations.SampleWordsDecode : Prop :=
  decode [0x45, 0x12, 0x34] = .ok (.ldhxImm 0x1234, []) ∧
  decode [0x9E, 0xD6, 0x02, 0x50] = .ok (.ldaSp2 0x0250, []) ∧
  decode [0x0E, 0x16, 0xFD] = .ok (.brset7 0x16 0xFD, []) ∧
  decode [0x4E, 0xF0, 0xF1] = .ok (.movDirDir 0xF0 0xF1, []) ∧
  decode [0x9E, 0x6B, 0x10, 0xFC] = .ok (.dbnzSp1 0x10 0xFC, []) ∧
  decode [0xCD, 0x12, 0x34] = .ok (.jsrExt 0x1234, []) ∧
  decode [0x48] = .ok (.lsla, []) ∧
  decode [0x91, 0xFA] = .ok (.blt 0xFA, []) ∧
  decode [0x80] = .ok (.rti, [])

/-! ### The step -/

/-- 60_exceptions.md R510, 30_encoding.md R102, 00_scope.md R13: when no reset and no interrupt is
taken at the boundary and the bytes at `PC`, in memory the CPU can access, decode to an instruction,
the step is the instruction, executed with `PC` past its bytes. -/
def Obligations.StepRunsDecodedInstruction : Prop :=
  ∀ (s u : State) (i : Instr) (rest : List Byte), u = takeInput s →
    u.run = .running → u.resetIn = none → recognise u = none → overwritten u u.pc = none →
    decode (bytesAt u u.pc 4) = .ok (i, rest) →
    (∀ k, k < i.length → IsMemory u (u.pc + BitVec.ofNat 16 k)) →
    step s = exec i { closeWindow u with pc := u.pc + BitVec.ofNat 16 i.length, recent := [] }

/-- 60_exceptions.md R505, 30_encoding.md R112: an unassigned opcode at `PC`. On a device with the
illegal-opcode reset the step is that reset, with the opcode bytes fetched and nothing else done; on a
device without it the model refuses. -/
def Obligations.UnassignedOpcodeStep : Prop :=
  ∀ (s u : State) (op : Byte), u = takeInput s →
    u.run = .running → u.resetIn = none → recognise u = none → overwritten u u.pc = none →
    (decode (bytesAt u u.pc 4) = .error (.unassigned op) → IsMemory u u.pc →
      step s =
        if .illegalOpcode ∈ u.device.resetSources then
          .next (resetCpu .illegalOpcode { closeWindow u with pc := u.pc + 1, recent := [] })
        else .refused (.illegalOpcode [op])) ∧
    (decode (bytesAt u u.pc 4) = .error (.unassignedAfterPrebyte op) →
      IsMemory u u.pc → IsMemory u (u.pc + 1) →
      step s =
        if .illegalOpcode ∈ u.device.resetSources then
          .next (resetCpu .illegalOpcode { closeWindow u with pc := u.pc + 2, recent := [] })
        else .refused (.illegalOpcode [prebyte, op]))

/-- 70_reset_and_hazards.md R590: a store to the opcode byte executed next. Every write to RAM, by
whatever instruction or by the interrupt entry, leaves a record of the byte that stood there before the
first write, and of no other byte; so after any instruction or entry, every byte of RAM it changed has
its old value on record; and the fetch of that opcode decodes the old byte or the new one, while memory
holds the new one. -/
def Obligations.OpcodePrefetchHazard : Prop :=
  (∀ (a : Word) (v : Byte) (s t : State), regionKind s.device a = .ram →
    busWrite a v s = .ok () t →
    t.byteAt a = v ∧ overwritten t a = some ((overwritten s a).getD (s.byteAt a)) ∧
    ∀ b : Word, b ≠ a → overwritten t b = overwritten s b) ∧
  (∀ (i : Instr) (s t : State), Uncut s → s.recent = [] → exec i s = .next t →
    ∀ b : Word, regionKind s.device b = .ram → t.byteAt b ≠ s.byteAt b →
      overwritten t b = some (s.byteAt b)) ∧
  (∀ (n : Nat) (s t : State), Uncut s → finish (interruptEntry n s) = .next t →
    ∀ b : Word, regionKind s.device b = .ram → t.byteAt b ≠ s.byteAt b →
      overwritten t b = some (s.byteAt b)) ∧
  (∀ (m : Addr) (s s1 : State), s.recent = [] →
    regionKind s.device (effectiveAddress m s) = .ram →
    busWrite (effectiveAddress m s) s.a s = .ok () s1 →
    ∃ t, exec (.staOf m) s = .next t ∧
      overwritten t (effectiveAddress m s) = some (s.byteAt (effectiveAddress m s))) ∧
  (∀ (s : State) (old : Byte), Accessible s s.pc → regionKind s.device s.pc = .ram →
    overwritten s s.pc = some old →
    ∃ b t, fetchOpcode s = .ok b t ∧
      b = (if Config.freeBit s.draws then old else s.byteAt s.pc) ∧
      t = { s with pc := s.pc + 1, recent := [], draws := s.draws + 1 })

/-! ### Reset -/

/-- 10_state.md R45: what reset leaves of the state the spec gives a value: `SP`, `H`, `I`, the run
state and the window. The list of memory is empty. -/
def Obligations.ResetStateValues : Prop :=
  State.reset.sp = 0x00FF ∧ State.reset.h = 0x00 ∧ State.reset.ccr.i = true ∧
  State.reset.run = .running ∧ State.reset.iWindow = none ∧ State.reset.mem = []

/-- The invariant holds of the machine right after reset. -/
def Obligations.ResetInvariant : Prop := Invariant State.reset

/-- Every step keeps the invariant: memory stays in canonical form; a window holds the complement of
the mask (10_state.md R47); in `Waiting` and `Stopped` the mask is clear (60_exceptions.md R543). -/
def Obligations.StepKeepsInvariant : Prop :=
  ∀ s t : State, Invariant s → step s = .next t → Invariant t

/-- 20_memory.md R77, R78, R79, 00_scope.md R7: no step changes the device, and no step changes a byte
held at an address that is not RAM. -/
def Obligations.StepKeepsFixedMemory : Prop :=
  ∀ s t : State, step s = .next t →
    t.device = s.device ∧ ∀ b : Word, regionKind s.device b ≠ .ram → t.byteAt b = s.byteAt b

/-- 60_exceptions.md R503, R502, R542, 70_reset_and_hazards.md R571: a reset event at a boundary, in any
run state. `SP`, `H`, `I`, the run state and the window are forced, the operating mode is latched, `PC`
takes the vector of that mode. Memory is unchanged; by a power-on reset, all of it but RAM. -/
def Obligations.ResetProcessing : Prop :=
  ∀ (s u : State) (source : ResetSource) (v : Word), u = takeInput s →
    u.resetIn = some ⟨source, 0⟩ → v = (if u.modePin then 0xFEFE else 0xFFFE) →
    IsMemory u v → IsMemory u (v + 1) →
    ∃ t, step s = .next t ∧
      t.sp = 0x00FF ∧ t.h = 0x00 ∧ t.ccr.i = true ∧ t.run = .running ∧ t.iWindow = none ∧
      t.monitorMode = u.modePin ∧ t.resetIn = none ∧ t.lastReset = source ∧
      t.pc = wordOf (t.byteAt v) (t.byteAt (v + 1)) ∧
      ∀ b : Word, (source ≠ .powerOn ∨ regionKind u.device b ≠ .ram) → t.byteAt b = u.byteAt b

/-- 60_exceptions.md R506, R503, 70_reset_and_hazards.md R605: a bus access to an illegal address
returns no value and writes nothing, and what makes it is abandoned in the illegal-address reset, with
the accesses before it done and those after it not. Said of every read and write, and of what makes
them: a load and a store in every memory mode, the second access of `STHX`, the fetch of every byte of
every instruction, every first push and pull, the vector fetch of `SWI` and of an interrupt, and the
reset's own vector fetch, after which a reset is due; a reset that is due is performed by the next
step, whatever the environment presents (that each such reset is one step is the model's choice, log
entry 29). -/
def Obligations.IllegalAddressReset : Prop :=
  (∀ (a : Word) (v : Byte) (s : State), ¬ ResetDue s → isIllegal s.device a = true →
    busRead a s = .cut .illegalAddress s ∧ busWrite a v s = .cut .illegalAddress s) ∧
  (∀ (s : State) (b : Word), (resetCpu .illegalAddress s).byteAt b = s.byteAt b) ∧
  (∀ (m : Addr) (s : State), ¬ ResetDue s → isIllegal s.device (effectiveAddress m s) = true →
    exec (.ldaOf (.mem m)) s = .next (resetCpu .illegalAddress s) ∧
    exec (.staOf m) s = .next (resetCpu .illegalAddress s)) ∧
  (∀ (dd : Byte) (s s1 : State), busWrite (dd.setWidth 16) s.h s = .ok () s1 → ¬ ResetDue s1 →
    isIllegal s.device (dd.setWidth 16 + 1) = true →
    exec (.sthx dd) s = .next (resetCpu .illegalAddress s1)) ∧
  (∀ (s u : State) (i : Instr) (rest : List Byte) (k : Nat), u = takeInput s →
    u.run = .running → u.resetIn = none → recognise u = none → overwritten u u.pc = none →
    decode (bytesAt u u.pc 4) = .ok (i, rest) → k < i.length →
    (∀ j, j < k → IsMemory u (u.pc + BitVec.ofNat 16 j)) →
    isIllegal u.device (u.pc + BitVec.ofNat 16 k) = true →
    step s = .next (resetCpu .illegalAddress
      { closeWindow u with pc := u.pc + BitVec.ofNat 16 k, recent := [] })) ∧
  (∀ (i : Instr) (s : State), ¬ ResetDue s → isIllegal s.device s.sp = true →
    (i ∈ [.psha, .pshh, .pshx, .swi] ∨ (∃ m, i = .jsrOf m) ∨ ∃ rr, i = .bsr rr) →
    exec i s = .next (resetCpu .illegalAddress s)) ∧
  (∀ (i : Instr) (s : State), ¬ ResetDue s → isIllegal s.device (s.sp + 1) = true →
    i ∈ [.pula, .pulh, .pulx, .rts, .rti] → exec i s = .next (resetCpu .illegalAddress s)) ∧
  (∀ (enter : State → Result) (v : Word) (s s1 s2 s3 s4 s5 : State),
    ((enter = exec .swi ∧ v = swiVector ∧ busWrite s.sp (loByte s.pc) s = .ok () s1) ∨
      ∃ n, n ≤ 125 ∧ (enter = fun s => finish (interruptEntry n s)) ∧ v = ireqVector n ∧
        busWrite s.sp (loByte s.pc) { s with recent := [] } = .ok () s1) →
    busWrite (s.sp - 1) (hiByte s.pc) s1 = .ok () s2 → busWrite (s.sp - 2) s.x s2 = .ok () s3 →
    busWrite (s.sp - 3) s.a s3 = .ok () s4 → busWrite (s.sp - 4) (ccrByte s.ccr) s4 = .ok () s5 →
    ¬ ResetDue s5 → isIllegal s.device (vectorAddress s.monitorMode v) = true →
    enter s = .next (resetCpu .illegalAddress s5)) ∧
  (∀ (source : ResetSource) (s : State) (v : Word), v = vectorAddress s.modePin resetVector →
    (isIllegal s.device v = true ∨ isIllegal s.device (v + 1) = true) →
    (resetCpu source s).resetIn = some ⟨.illegalAddress, 0⟩) ∧
  (∀ s : State, ResetDue s → ∃ again, step s = .next (resetCpu again (takeInput s)))

/-- 60_exceptions.md R502, 20_memory.md R69, 70_reset_and_hazards.md R595: a reset (not a loss of power)
after the first of the two writes of `STHX` leaves `H` stored and `X` not. -/
def Obligations.ResetInsideStore : Prop :=
  ∀ (dd : Byte) (s : State) (source : ResetSource), s.resetIn = some ⟨source, 1⟩ →
    source ≠ .powerOn → IsRam s (dd.setWidth 16) →
    ∃ t, exec (.sthx dd) s = .next t ∧ t.byteAt (dd.setWidth 16) = s.h ∧
      (∀ b : Word, b ≠ dd.setWidth 16 → t.byteAt b = s.byteAt b) ∧
      t.sp = 0x00FF ∧ t.h = 0x00 ∧ t.ccr.i = true ∧ t.run = .running ∧ t.lastReset = source

/-! ### Interrupts and the low-power states -/

/-- 60_exceptions.md R510, R512, R513, R521: at a boundary with no window, an asserted request that
exists and has the least number is entered if the mask is clear; with the mask set, or with no request
that exists, the instruction executes. -/
def Obligations.InterruptRecognition : Prop :=
  ∀ s u : State, u = takeInput s → u.run = .running → u.resetIn = none → u.iWindow = none →
    (∀ n, u.ccr.i = false → n ∈ u.ireq → n < u.device.nIreq →
      (∀ m ∈ u.ireq, m < u.device.nIreq → n ≤ m) →
      step s = finish (interruptEntry n u)) ∧
    ((u.ccr.i = true ∨ ∀ m ∈ u.ireq, u.device.nIreq ≤ m) → step s = runInstruction u)

/-- 60_exceptions.md R513, R510: at the one boundary after a `CLI`, `SEI` or `TAP` that changed `I`, with
a request pending, the mask is the old or the new value, whichever is drawn; with no request that
exists the instruction executes; the window is consumed either way. That the draw is made with no
request too is the model's form, log entry 13. -/
def Obligations.MaskWindow : Prop :=
  ∀ (s u v : State) (old : Bool), u = takeInput s →
    u.run = .running → u.resetIn = none → u.iWindow = some old →
    v = { u with iWindow := none, draws := u.draws + 1 } →
    (∀ n, n ∈ u.ireq → n < u.device.nIreq → (∀ m ∈ u.ireq, m < u.device.nIreq → n ≤ m) →
      step s =
        if (if Config.freeBit u.draws then old else u.ccr.i) then runInstruction v
        else finish (interruptEntry n v)) ∧
    ((∀ m ∈ u.ireq, u.device.nIreq ≤ m) → step s = runInstruction v)

/-- 60_exceptions.md R530, R531, R532, R533, R507, R508: entry for request `n`. `PC` (the address of
the instruction that would have executed next), `X`, `A` and the CCR are stacked, not `H`; then `I` is
set; then the vector at `$FFFA - 2n`, or `$FEFA - 2n` in monitor mode, is loaded. The linear rule (R507)
and the move of this vector in monitor mode (R508, log entry 20) are the spec's own inference: its
source prints the ends of the table and the monitor's reset vector only. -/
def Obligations.InterruptEntry : Prop :=
  ∀ n, n ≤ 125 → EntryClaim (fun s => finish (interruptEntry n s))
    (fun s => { s with recent := [] })
    (fun s => (if s.monitorMode then 0xFEFA else 0xFFFA) - BitVec.ofNat 16 (2 * n))

/-- 60_exceptions.md R540, R541, R543: in `Waiting` the least asserted line that exists ends the state
by its interrupt entry, in `Stopped` the least asserted line of `STOP_WAKE`; with none the step changes
nothing. -/
def Obligations.LowPowerStates : Prop :=
  ∀ s u : State, u = takeInput s → u.resetIn = none →
    (∀ n, u.run = .waiting → n ∈ u.ireq → n < u.device.nIreq →
      (∀ m ∈ u.ireq, m < u.device.nIreq → n ≤ m) →
      step s = finish (interruptEntry n { u with run := .running })) ∧
    (u.run = .waiting → (∀ m ∈ u.ireq, u.device.nIreq ≤ m) → step s = .next u) ∧
    (∀ n, u.run = .stopped → n ∈ u.ireq → n ∈ u.device.stopWake →
      (∀ m ∈ u.ireq, m ∈ u.device.stopWake → n ≤ m) →
      step s = finish (interruptEntry n { u with run := .running })) ∧
    (u.run = .stopped → (∀ m ∈ u.ireq, m ∉ u.device.stopWake) → step s = .next u)

/-- 60_exceptions.md R507, R508: the vector addresses, in user mode and, with address bit A8 forced to
0, in monitor mode. -/
def Obligations.VectorAddresses : Prop :=
  (∀ v : Word, vectorAddress false v = v) ∧
  (∀ (v : Word) (k : Nat), (vectorAddress true v).getLsbD k = (v.getLsbD k && decide (k ≠ 8))) ∧
  vectorAddress true resetVector = 0xFEFE ∧ vectorAddress true swiVector = 0xFEFC ∧
  (∀ n, n ≤ 125 → (ireqVector n).toNat = 0xFFFA - 2 * n ∧
    (vectorAddress true (ireqVector n)).toNat = 0xFEFA - 2 * n)

/-! ### Bus accesses -/

/-- 20_memory.md R75, R76, R77, R78, R79: what a read returns and does by what stands at the address.
RAM and ROM return the byte they hold and nothing changes; an I/O address returns the environment's
value, or a free one when the environment's script is empty, and the environment sees the read; an
unimplemented address returns a free value, drawn afresh. -/
def Obligations.BusReadByKind : Prop :=
  ∀ (a : Word) (s : State), Accessible s a →
    (IsMemory s a → busRead a s = .ok (s.byteAt a) s) ∧
    (∀ v rest, regionKind s.device a = .io → s.ioIn = v :: rest →
      busRead a s = .ok v { s with ioIn := rest, ioLog := .read a v :: s.ioLog }) ∧
    (regionKind s.device a = .io → s.ioIn = [] →
      busRead a s = .ok (Config.freeByte s.draws)
        { s with draws := s.draws + 1, ioLog := .read a (Config.freeByte s.draws) :: s.ioLog }) ∧
    (regionKind s.device a = .unimplemented →
      busRead a s = .ok (Config.freeByte s.draws) { s with draws := s.draws + 1 })

/-- 20_memory.md R75, R77, R78, R79: what a write does by what stands at the address. RAM takes the
byte and no other byte changes; ROM and unimplemented addresses change nothing; the environment sees
the write of an I/O address and memory does not change. -/
def Obligations.BusWriteByKind : Prop :=
  ∀ (a : Word) (v : Byte) (s : State), Accessible s a → ∃ t, busWrite a v s = .ok () t ∧
    WriteFrame [a] s t ∧
    (regionKind s.device a = .ram → t.byteAt a = v ∧ t.ioLog = s.ioLog) ∧
    (regionKind s.device a = .rom → t = s) ∧
    (regionKind s.device a = .io → t = { s with ioLog := .write a v :: s.ioLog }) ∧
    (regionKind s.device a = .unimplemented → t = s)

/-- 20_memory.md R68, R78, 70_reset_and_hazards.md R596: on an I/O address `INC` performs one read and
then one write, `TST` one read and `CLR` one write, and the environment sees exactly those. -/
def Obligations.IoReadModifyWrite : Prop :=
  ∀ (m : RmwAddr) (s : State) (ea : Word) (v : Byte) (rest : List Byte),
    ea = effectiveAddress m.addr s → Accessible s ea → regionKind s.device ea = .io →
    s.ioIn = v :: rest →
    (∃ t, exec (.incOf m) s = .next t ∧ t.ioLog = .write ea (v + 1) :: .read ea v :: s.ioLog ∧
      t.ioIn = rest) ∧
    (∃ t, exec (.tstOf m) s = .next t ∧ t.ioLog = .read ea v :: s.ioLog ∧ t.ioIn = rest) ∧
    (∃ t, exec (.clrOf m) s = .next t ∧ t.ioLog = .write ea 0 :: s.ioLog ∧ t.ioIn = s.ioIn)

/-! ### The whole instruction set -/

/-- 70_reset_and_hazards.md R605, 60_exceptions.md R500, R505: no instruction stops the machine, in any
state; and a step always has a next state but for one case, an unassigned opcode on a device without
the illegal-opcode reset, with no reset due, which the model refuses by its bytes: one of the six first
bytes, or the pre-byte and one of the 215 that the `$9E` page does not assign. -/
def Obligations.NoInstructionStops : Prop :=
  (∀ (i : Instr) (s : State), ∃ t, exec i s = .next t) ∧
  (∀ s : State, (∃ t, step s = .next t) ∨
    ∃ bytes, step s = .refused (.illegalOpcode bytes) ∧
      .illegalOpcode ∉ s.device.resetSources ∧
      ((∃ op, op ∈ unassignedFirst ∧ bytes = [op]) ∨
        ∃ op, op ∉ assignedAfterPrebyte ∧ bytes = [prebyte, op]))

/-- 40_addressing_modes.md R162: with no reset in it, an instruction that is none of the listed ones
leaves `H` unchanged. -/
def Obligations.OnlyListedInstructionsChangeH : Prop :=
  ∀ (i : Instr) (s t : State), Uncut s → exec i s = .next t → changesH i = false → t.h = s.h

/-- 10_state.md R35, the flag-write summary: with no reset in it, every instruction leaves, sets and
clears the flags its row says; and the interrupt entry sets `I` and leaves the other five. -/
def Obligations.FlagWriteSummary : Prop :=
  (∀ (i : Instr) (s t : State), Uncut s → exec i s = .next t →
    (flagMarks i).allow s.ccr t.ccr = true) ∧
  (∀ (n : Nat) (s t : State), Uncut s → finish (interruptEntry n s) = .next t →
    t.ccr = { s.ccr with i := true })

/-! ### Loads, stores, moves, clears (41_load_store_move.md) -/

/-- R181, R182: `LDA` and `LDX` in every mode. -/
def Obligations.LoadByteForms : Prop :=
  OperandClaim .ldaOf (fun m t =>
    { t with a := m, ccr := { t.ccr with v := false, n := m.getLsbD 7, z := decide (m = 0) } }) ∧
  OperandClaim .ldxOf (fun m t =>
    { t with x := m, ccr := { t.ccr with v := false, n := m.getLsbD 7, z := decide (m = 0) } })

/-- R183: `LDHX`, immediate and direct: the byte at the address goes to `H`, the next to `X`; `N` is
bit 15 and `Z` the whole word. In the direct mode the second address after `$00FF` is `$0100`. -/
def Obligations.LoadIndexRegister : Prop :=
  (∀ (jjkk : Word) (s : State), Completes (.ldhxImm jjkk) s
    { s with
      h := hiByte jjkk, x := loByte jjkk
      ccr := { s.ccr with v := false, n := jjkk.getLsbD 15, z := decide (jjkk = 0) } }) ∧
  (∀ (dd hi lo : Byte) (s s1 s2 : State), busRead (dd.setWidth 16) s = .ok hi s1 →
    busRead (dd.setWidth 16 + 1) s1 = .ok lo s2 →
    Completes (.ldhxDir dd) s
      { s2 with
        h := hi, x := lo
        ccr := { s.ccr with v := false, n := hi.getLsbD 7, z := decide (hi = 0 ∧ lo = 0) } } ∧
    ReadFrame s s2)

/-- R184, R185: `STA` and `STX` in every mode; the flags are those of the byte stored. -/
def Obligations.StoreByteForms : Prop :=
  (∀ m, WriteClaim (.staOf m) (effectiveAddress m) State.a (fun t =>
    { t with ccr := { t.ccr with v := false, n := t.a.getLsbD 7, z := decide (t.a = 0) } })) ∧
  (∀ m, WriteClaim (.stxOf m) (effectiveAddress m) State.x (fun t =>
    { t with ccr := { t.ccr with v := false, n := t.x.getLsbD 7, z := decide (t.x = 0) } }))

/-- R186: `STHX` stores `H`, then `X` at the next address; `N` is bit 7 of `H`, `Z` the whole word. -/
def Obligations.StoreIndexRegister : Prop :=
  ∀ (dd : Byte) (s s1 s2 : State) (ea : Word), ea = dd.setWidth 16 →
    busWrite ea s.h s = .ok () s1 → busWrite (ea + 1) s.x s1 = .ok () s2 →
    CompletesStoring [ea, ea + 1] (.sthx dd) s
      { s2 with
        ccr := { s.ccr with v := false, n := s.h.getLsbD 7, z := decide (s.h = 0 ∧ s.x = 0) } } ∧
    WriteFrame [ea, ea + 1] s s2 ∧ Stored ea s.h s s2 ∧ Stored (ea + 1) s.x s s2

/-- R187 to R191: `MOV` in its four forms. The source is read, then the destination is written; the
flags are those of the byte read; the post-increment forms then increment `HX` as 16 bits; `A` is
untouched. -/
def Obligations.MoveForms : Prop :=
  (∀ src dst : Byte, ReadWriteClaim (.movDirDir src dst) (fun _ => src.setWidth 16)
    (fun _ => dst.setWidth 16) (fun v _ => v) (fun v t =>
      { t with ccr := { t.ccr with v := false, n := v.getLsbD 7, z := decide (v = 0) } })) ∧
  (∀ dd : Byte, ReadWriteClaim (.movDirIxInc dd) (fun _ => dd.setWidth 16) State.hx
    (fun v _ => v) (fun v t =>
      { t with
        h := hiByte (t.hx + 1), x := loByte (t.hx + 1)
        ccr := { t.ccr with v := false, n := v.getLsbD 7, z := decide (v = 0) } })) ∧
  (∀ ii dd : Byte, WriteClaim (.movImmDir ii dd) (fun _ => dd.setWidth 16) (fun _ => ii) (fun t =>
      { t with ccr := { t.ccr with v := false, n := ii.getLsbD 7, z := decide (ii = 0) } })) ∧
  (∀ dd : Byte, ReadWriteClaim (.movIxIncDir dd) State.hx (fun _ => dd.setWidth 16)
    (fun v _ => v) (fun v t =>
      { t with
        h := hiByte (t.hx + 1), x := loByte (t.hx + 1)
        ccr := { t.ccr with v := false, n := v.getLsbD 7, z := decide (v = 0) } }))

/-- R192 to R195: `CLR` in every mode (one write and no read), `CLRA`, `CLRX`, `CLRH`. -/
def Obligations.ClearForms : Prop :=
  (∀ m, WriteClaim (.clrOf m) (effectiveAddress m.addr) (fun _ => 0) (fun t =>
    { t with ccr := { t.ccr with v := false, n := false, z := true } })) ∧
  (∀ s, Completes .clra s
    { s with a := 0, ccr := { s.ccr with v := false, n := false, z := true } }) ∧
  (∀ s, Completes .clrx s
    { s with x := 0, ccr := { s.ccr with v := false, n := false, z := true } }) ∧
  (∀ s, Completes .clrh s
    { s with h := 0, ccr := { s.ccr with v := false, n := false, z := true } })

/-! ### Arithmetic (42_arithmetic.md) -/

/-- The state after an addition with carry-in `k`: the sum, and the flags by the source's formulae. -/
def additionResult (k : Bool) (m : Byte) (t : State) : State :=
  let r := t.a + m + (if k then 1 else 0)
  { t with
    a := r
    ccr := { t.ccr with
      v := overflowOfSum (t.a.getLsbD 7) (m.getLsbD 7) (r.getLsbD 7)
      h := carryOfSum (t.a.getLsbD 3) (m.getLsbD 3) (r.getLsbD 3)
      n := r.getLsbD 7
      z := decide (r = 0)
      c := carryOfSum (t.a.getLsbD 7) (m.getLsbD 7) (r.getLsbD 7) } }

/-- The flags after the subtraction of `m` and borrow-in `k` from `a`, by the source's formulae. -/
def differenceFlags (c : Ccr) (a m : Byte) (k : Bool) : Ccr :=
  let r := a - m - (if k then 1 else 0)
  { c with
    v := overflowOfDifference (a.getLsbD 7) (m.getLsbD 7) (r.getLsbD 7)
    n := r.getLsbD 7
    z := decide (r = 0)
    c := borrowOfDifference (a.getLsbD 7) (m.getLsbD 7) (r.getLsbD 7) }

/-- R221, R222: `ADD` and `ADC` in every mode, with the source's Boolean formulae for `V`, `H` and `C`. -/
def Obligations.AddAndAdc : Prop :=
  OperandClaim .addOf (fun m t => additionResult false m t) ∧
  OperandClaim .adcOf (fun m t => additionResult t.ccr.c m t)

/-- R223, R224: `SUB` and `SBC` in every mode, with the source's formulae for `V` and `C`. -/
def Obligations.SubAndSbc : Prop :=
  OperandClaim .subOf (fun m t =>
    { t with a := t.a - m, ccr := differenceFlags t.ccr t.a m false }) ∧
  OperandClaim .sbcOf (fun m t =>
    { t with
      a := t.a - m - (if t.ccr.c then 1 else 0)
      ccr := differenceFlags t.ccr t.a m t.ccr.c })

/-- R225, R226: `CMP` and `CPX` in every mode set the flags of a difference and change nothing else. -/
def Obligations.CompareSetsFlagsOnly : Prop :=
  OperandClaim .cmpOf (fun m t => { t with ccr := differenceFlags t.ccr t.a m false }) ∧
  OperandClaim .cpxOf (fun m t => { t with ccr := differenceFlags t.ccr t.x m false })

/-- The flags of `CPHX`, by the source's formulae (R227). -/
def wordDifferenceFlags (c : Ccr) (a m : Word) : Ccr :=
  let r := a - m
  { c with
    v := overflowOfDifference (a.getLsbD 15) (m.getLsbD 15) (r.getLsbD 15)
    n := r.getLsbD 15
    z := decide (r = 0)
    c := borrowOfDifference (a.getLsbD 15) (m.getLsbD 15) (r.getLsbD 15) }

/-- R227: `CPHX`, immediate and direct, sets the flags of the 16-bit difference and changes nothing
else. -/
def Obligations.CompareIndexRegister : Prop :=
  (∀ (jjkk : Word) (s : State),
    Completes (.cphxImm jjkk) s { s with ccr := wordDifferenceFlags s.ccr s.hx jjkk }) ∧
  (∀ (dd hi lo : Byte) (s s1 s2 : State), busRead (dd.setWidth 16) s = .ok hi s1 →
    busRead (dd.setWidth 16 + 1) s1 = .ok lo s2 →
    Completes (.cphxDir dd) s { s2 with ccr := wordDifferenceFlags s.ccr s.hx (wordOf hi lo) } ∧
    ReadFrame s s2)

/-- 45_branch.md R351: after `CMP` the branches decide the relation of the accumulator and the operand,
signed (`BGT`, `BGE`, `BLE`, `BLT`), unsigned (`BHI`, `BHS`/`BCC`, `BLS`, `BLO`/`BCS`) and for equality
(`BEQ`, `BNE`). -/
def Obligations.BranchesAfterCompare : Prop :=
  ∀ (op : Operand) (m rr : Byte) (s s1 t : State), readOperand op s = .ok m s1 →
    exec (.cmpOf op) s = .next t →
    let go (taken : Bool) : Result :=
      .next (if taken then { t with pc := t.pc + rr.signExtend 16 } else t)
    exec (.bgt rr) t = go (decide (m.toInt < s.a.toInt)) ∧
    exec (.bge rr) t = go (decide (m.toInt ≤ s.a.toInt)) ∧
    exec (.ble rr) t = go (decide (s.a.toInt ≤ m.toInt)) ∧
    exec (.blt rr) t = go (decide (s.a.toInt < m.toInt)) ∧
    exec (.bhi rr) t = go (decide (m.toNat < s.a.toNat)) ∧
    exec (.bcc rr) t = go (decide (m.toNat ≤ s.a.toNat)) ∧
    exec (.bls rr) t = go (decide (s.a.toNat ≤ m.toNat)) ∧
    exec (.bcs rr) t = go (decide (s.a.toNat < m.toNat)) ∧
    exec (.beq rr) t = go (decide (s.a = m)) ∧
    exec (.bne rr) t = go (decide (s.a ≠ m))

/-- R228, R229, R230, 43_logic_bit.md R285: `INC`, `DEC`, `NEG` and `COM` on memory, on `A` and on
`X`, with the source's formulae: `V` is `!M7&R7`, `M7&!R7`, `M7&R7` and 0; `INC` and `DEC` leave `C`,
`NEG` sets it unless the result is zero, `COM` sets it. -/
def Obligations.IncDecNegCom : Prop :=
  RmwClaim .incOf .inca .incx (fun v c =>
    (v + 1, { c with
      v := !v.getLsbD 7 && (v + 1).getLsbD 7, n := (v + 1).getLsbD 7, z := decide (v + 1 = 0) })) ∧
  RmwClaim .decOf .deca .decx (fun v c =>
    (v - 1, { c with
      v := v.getLsbD 7 && !(v - 1).getLsbD 7, n := (v - 1).getLsbD 7, z := decide (v - 1 = 0) })) ∧
  RmwClaim .negOf .nega .negx (fun v c =>
    (-v, { c with
      v := v.getLsbD 7 && (-v).getLsbD 7, n := (-v).getLsbD 7, z := decide (-v = 0)
      c := decide (-v ≠ 0) })) ∧
  RmwClaim .comOf .coma .comx (fun v c =>
    (~~~v, { c with v := false, n := (~~~v).getLsbD 7, z := decide (~~~v = 0), c := true }))

/-- R231: `TST` in every form sets `N` and `Z`, clears `V`, and writes nothing. -/
def Obligations.TestSetsFlagsOnly : Prop :=
  (∀ m, ReadClaim (.tstOf m) (effectiveAddress m.addr) (fun v t =>
    { t with ccr := { t.ccr with v := false, n := v.getLsbD 7, z := decide (v = 0) } })) ∧
  (∀ s, Completes .tsta s
    { s with ccr := { s.ccr with v := false, n := s.a.getLsbD 7, z := decide (s.a = 0) } }) ∧
  (∀ s, Completes .tstx s
    { s with ccr := { s.ccr with v := false, n := s.x.getLsbD 7, z := decide (s.x = 0) } })

/-- R240: `MUL`. `X:A` is the 16-bit product of the old `X` and `A`; `H` (flag) and `C` are cleared. -/
def Obligations.MultiplyProduct : Prop :=
  ∀ s : State, ∃ t, Completes .mul s t ∧
    (wordOf t.x t.a).toNat = s.x.toNat * s.a.toNat ∧
    t = { s with x := t.x, a := t.a, ccr := { s.ccr with h := false, c := false } }

/-- R241: `DIV`. With `H < X` the quotient is exact in `A`, the remainder in `H`, `Z` says whether the
quotient is zero and `C` is 0. Otherwise (division by zero or a quotient above `$FF`) `C` is 1 and
`A`, `H` and `Z` are free values. `X` and everything else is unchanged. -/
def Obligations.DivideOrFreeQuotient : Prop :=
  (∀ s : State, s.h.toNat < s.x.toNat → ∃ t, Completes .div s t ∧
    s.h.toNat * 256 + s.a.toNat = s.x.toNat * t.a.toNat + t.h.toNat ∧ t.h.toNat < s.x.toNat ∧
    t = { s with a := t.a, h := t.h, ccr := { s.ccr with z := decide (t.a = 0), c := false } }) ∧
  (∀ s : State, s.x.toNat ≤ s.h.toNat → Completes .div s
    { s with
      a := Config.freeByte s.draws
      h := Config.freeByte (s.draws + 1)
      ccr := { s.ccr with z := Config.freeBit (s.draws + 2), c := true }
      draws := s.draws + 3 })

/-- R250, R251, R252: `AIS` and `AIX` add a signed byte to the 16-bit register, modulo 2^16, and change
no flag; `NSA` swaps the nibbles of `A`. -/
def Obligations.PointerAdjustAndSwap : Prop :=
  (∀ (ii : Byte) (s : State), Completes (.ais ii) s
    { s with sp := BitVec.ofInt 16 (s.sp.toNat + ii.toInt) }) ∧
  (∀ (ii : Byte) (s : State), ∃ t, Completes (.aix ii) s t ∧
    t.hx = BitVec.ofInt 16 (s.hx.toNat + ii.toInt) ∧ t = { s with h := t.h, x := t.x }) ∧
  (∀ s : State, Completes .nsa s
    { s with a := BitVec.ofNat 8 (s.a.toNat % 16 * 16 + s.a.toNat / 16) })

/-- R260, R261, R262: `DAA`. On a state that matches a row of Table 5-2 the correction and the carry
are those of the closed form R261, `N` and `Z` are those of the result and `V` is a free value; on any
other state `A`, `N`, `Z`, `C` and `V` are free values. `H` and `I` are unchanged in both. -/
def Obligations.DecimalAdjust : Prop :=
  (∀ (s : State) (row : DaaRow), row ∈ daaTable → daaMatches s.ccr.c s.a s.ccr.h row = true →
    let lo : Byte := if s.ccr.h || decide (s.a.toNat % 16 > 9) then 0x06 else 0x00
    let hi : Byte := if s.ccr.c || decide (s.a.toNat > 0x99) then 0x60 else 0x00
    let r := s.a + (hi ||| lo)
    Completes .daa s
      { s with
        a := r
        ccr := { s.ccr with
          v := Config.freeBit s.draws, n := r.getLsbD 7, z := decide (r = 0)
          c := s.ccr.c || decide (s.a.toNat > 0x99) }
        draws := s.draws + 1 }) ∧
  (∀ s : State, (∀ row ∈ daaTable, daaMatches s.ccr.c s.a s.ccr.h row = false) →
    Completes .daa s
      { s with
        a := Config.freeByte s.draws
        ccr := { s.ccr with
          v := Config.freeBit (s.draws + 1), n := Config.freeBit (s.draws + 2)
          z := Config.freeBit (s.draws + 3), c := Config.freeBit (s.draws + 4) }
        draws := s.draws + 5 })

/-- 42_arithmetic.md R262, R260, R221, R222: a sum of two packed decimal bytes by `ADD`, or of them and
the carry by `ADC`, in every mode, then `DAA`, is their decimal sum, with `C` the decimal carry. -/
def Obligations.DecimalAddition : Prop :=
  ∀ (op : Operand) (m : Byte) (s s1 : State) (a1 a0 m1 m0 : Nat),
    a1 ≤ 9 → a0 ≤ 9 → m1 ≤ 9 → m0 ≤ 9 →
    s.a.toNat = a1 * 16 + a0 → m.toNat = m1 * 16 + m0 → readOperand op s = .ok m s1 →
    ∀ (i : Instr) (carryIn : Nat),
      ((i = .addOf op ∧ carryIn = 0) ∨ (i = .adcOf op ∧ carryIn = s.ccr.c.toNat)) →
      ∃ t u, exec i s = .next t ∧ exec .daa t = .next u ∧
        u.a.toNat / 16 ≤ 9 ∧ u.a.toNat % 16 ≤ 9 ∧
        (if u.ccr.c then 100 else 0) + u.a.toNat / 16 * 10 + u.a.toNat % 16 =
          a1 * 10 + a0 + (m1 * 10 + m0) + carryIn

/-! ### Logic, bits, shifts (43_logic_bit.md, 44_shift_rotate.md) -/

/-- R280 to R284: `AND`, `ORA`, `EOR` and `BIT` in every mode; `BIT` discards the result. -/
def Obligations.LogicForms : Prop :=
  OperandClaim .andOf (fun m t =>
    { t with
      a := t.a &&& m
      ccr := { t.ccr with
        v := false, n := t.a.getLsbD 7 && m.getLsbD 7, z := decide (t.a &&& m = 0) } }) ∧
  OperandClaim .oraOf (fun m t =>
    { t with
      a := t.a ||| m
      ccr := { t.ccr with
        v := false, n := t.a.getLsbD 7 || m.getLsbD 7, z := decide (t.a = 0 ∧ m = 0) } }) ∧
  OperandClaim .eorOf (fun m t =>
    { t with
      a := t.a ^^^ m
      ccr := { t.ccr with
        v := false, n := t.a.getLsbD 7 ^^ m.getLsbD 7, z := decide (t.a = m) } }) ∧
  OperandClaim .bitOf (fun m t =>
    { t with
      ccr := { t.ccr with
        v := false, n := t.a.getLsbD 7 && m.getLsbD 7, z := decide (t.a &&& m = 0) } })

/-- R286, R287: `BSET n` and `BCLR n` for every `n`: one read and one write of the direct address, by
which bit `n` is set or cleared and the other seven bits are rewritten as read. No flag changes. -/
def Obligations.BitSetClear : Prop :=
  ∀ (n : Fin 8) (dd : Byte),
    ∃ setN clearN : Byte → Byte,
      (∀ (v : Byte) (k : Nat), k < 8 →
        (setN v).getLsbD k = (decide (k = n.val) || v.getLsbD k) ∧
        (clearN v).getLsbD k = (!decide (k = n.val) && v.getLsbD k)) ∧
      ReadWriteClaim (.bsetOf n dd) (fun _ => dd.setWidth 16) (fun _ => dd.setWidth 16)
        (fun v _ => setN v) (fun _ t => t) ∧
      ReadWriteClaim (.bclrOf n dd) (fun _ => dd.setWidth 16) (fun _ => dd.setWidth 16)
        (fun v _ => clearN v) (fun _ t => t)

/-- The flags of a shift: `N`, `Z` and the bit shifted out, and `V` the exclusive-OR of `N` and `C`
(R320). -/
def shiftedFlags (c : Ccr) (r : Byte) (out : Bool) : Ccr :=
  { c with v := r.getLsbD 7 ^^ out, n := r.getLsbD 7, z := decide (r = 0), c := out }

/-- R321 to R325: `LSL` (`ASL`), `ASR`, `LSR`, `ROL` and `ROR` on memory, on `A` and on `X`, each
written as the nine bits the diagram shifts. -/
def Obligations.ShiftsAndRotates : Prop :=
  RmwClaim .lslOf .lsla .lslx (fun v c =>
    let r := BitVec.ofNat 8 (v.toNat * 2)
    (r, shiftedFlags c r (v.getLsbD 7))) ∧
  RmwClaim .asrOf .asra .asrx (fun v c =>
    let r := BitVec.ofInt 8 (v.toInt / 2)
    (r, shiftedFlags c r (v.getLsbD 0))) ∧
  RmwClaim .lsrOf .lsra .lsrx (fun v c =>
    let r := BitVec.ofNat 8 (v.toNat / 2)
    (r, shiftedFlags c r (v.getLsbD 0))) ∧
  RmwClaim .rolOf .rola .rolx (fun v c =>
    let r := BitVec.ofNat 8 (v.toNat * 2 + c.c.toNat)
    (r, shiftedFlags c r (v.getLsbD 7))) ∧
  RmwClaim .rorOf .rora .rorx (fun v c =>
    let r := BitVec.ofNat 8 (v.toNat / 2 + c.c.toNat * 128)
    (r, shiftedFlags c r (v.getLsbD 0)))

/-! ### Branches (45_branch.md) -/

/-- R350, R352 to R369, R376, R377: the twenty relative branches. Taken, `PC` is the next instruction's
address plus the signed offset, modulo 2^16; not taken, it is that address; nothing else changes. -/
def Obligations.RelativeBranches : Prop :=
  ∀ (rr : Byte) (s : State),
    let go (taken : Bool) : State :=
      if taken then { s with pc := BitVec.ofInt 16 (s.pc.toNat + rr.toInt) } else s
    let c := s.ccr
    Completes (.bra rr) s (go true) ∧ Completes (.brn rr) s (go false) ∧
    Completes (.bhi rr) s (go (!c.c && !c.z)) ∧ Completes (.bls rr) s (go (c.c || c.z)) ∧
    Completes (.bcc rr) s (go (!c.c)) ∧ Completes (.bcs rr) s (go c.c) ∧
    Completes (.bne rr) s (go (!c.z)) ∧ Completes (.beq rr) s (go c.z) ∧
    Completes (.bhcc rr) s (go (!c.h)) ∧ Completes (.bhcs rr) s (go c.h) ∧
    Completes (.bpl rr) s (go (!c.n)) ∧ Completes (.bmi rr) s (go c.n) ∧
    Completes (.bmc rr) s (go (!c.i)) ∧ Completes (.bms rr) s (go c.i) ∧
    Completes (.bge rr) s (go (c.n == c.v)) ∧ Completes (.blt rr) s (go (c.n != c.v)) ∧
    Completes (.bgt rr) s (go (!c.z && c.n == c.v)) ∧
    Completes (.ble rr) s (go (c.z || c.n != c.v)) ∧
    Completes (.bih rr) s (go s.irqPin) ∧ Completes (.bil rr) s (go (!s.irqPin))

/-- R380, R381: `BRSET n` and `BRCLR n` for every `n`: `C` takes the bit read, taken or not; `BRSET`
branches when it is 1, `BRCLR` when it is 0. -/
def Obligations.BitTestBranches : Prop :=
  ∀ (n : Fin 8) (dd rr : Byte),
    ReadClaim (.brsetOf n dd rr) (fun _ => dd.setWidth 16) (fun v t =>
      { t with
        ccr := { t.ccr with c := v.getLsbD n.val }
        pc := if v.getLsbD n.val then t.pc + rr.signExtend 16 else t.pc }) ∧
    ReadClaim (.brclrOf n dd rr) (fun _ => dd.setWidth 16) (fun v t =>
      { t with
        ccr := { t.ccr with c := v.getLsbD n.val }
        pc := if v.getLsbD n.val then t.pc else t.pc + rr.signExtend 16 })

/-- R385, R386, R387: `CBEQ` on memory in its four forms, `CBEQA` and `CBEQX`. The indexed forms
increment `HX` as 16 bits whether or not they branch; no flag changes. -/
def Obligations.CompareBranches : Prop :=
  (∀ dd rr : Byte, ReadClaim (.cbeqDir dd rr) (effectiveAddress (.dir dd)) (fun v t =>
    { t with pc := if t.a = v then t.pc + rr.signExtend 16 else t.pc })) ∧
  (∀ ff rr : Byte, ReadClaim (.cbeqSp1 ff rr) (effectiveAddress (.sp1 ff)) (fun v t =>
    { t with pc := if t.a = v then t.pc + rr.signExtend 16 else t.pc })) ∧
  (∀ ff rr : Byte, ReadClaim (.cbeqIx1Inc ff rr) (effectiveAddress (.ix1 ff)) (fun v t =>
    { t with
      h := hiByte (t.hx + 1), x := loByte (t.hx + 1)
      pc := if t.a = v then t.pc + rr.signExtend 16 else t.pc })) ∧
  (∀ rr : Byte, ReadClaim (.cbeqIxInc rr) (effectiveAddress .ix) (fun v t =>
    { t with
      h := hiByte (t.hx + 1), x := loByte (t.hx + 1)
      pc := if t.a = v then t.pc + rr.signExtend 16 else t.pc })) ∧
  (∀ (ii rr : Byte) (s : State), Completes (.cbeqa ii rr) s
    { s with pc := if s.a = ii then s.pc + rr.signExtend 16 else s.pc }) ∧
  (∀ (ii rr : Byte) (s : State), Completes (.cbeqx ii rr) s
    { s with pc := if s.x = ii then s.pc + rr.signExtend 16 else s.pc })

/-- R390, R391, R392: `DBNZ` on memory in its four forms (one read, one write), `DBNZA` and `DBNZX`
(which leaves `H`): branch unless the decremented byte is zero, that is unless it was 1; no flag
changes. -/
def Obligations.DecrementBranches : Prop :=
  (∀ (m : RmwAddr) (rr : Byte), ReadWriteClaim (.dbnzOf m rr) (effectiveAddress m.addr)
    (effectiveAddress m.addr) (fun v _ => v - 1) (fun v t =>
      { t with pc := if v = 1 then t.pc else t.pc + rr.signExtend 16 })) ∧
  (∀ (rr : Byte) (s : State), Completes (.dbnza rr) s
    { s with a := s.a - 1, pc := if s.a = 1 then s.pc else s.pc + rr.signExtend 16 }) ∧
  (∀ (rr : Byte) (s : State), Completes (.dbnzx rr) s
    { s with x := s.x - 1, pc := if s.x = 1 then s.pc else s.pc + rr.signExtend 16 })

/-! ### Jumps and the stack (46_jump_subroutine.md, 47_stack_transfer.md) -/

/-- 40_addressing_modes.md R141, R143, R144, R147 to R149, R151, R152: the effective address of each
memory mode, as a number modulo 2^16; every offset is unsigned. -/
def Obligations.EffectiveAddresses : Prop :=
  ∀ (s : State) (b : Byte) (w : Word),
    (effectiveAddress (.dir b) s).toNat = b.toNat ∧
    effectiveAddress (.ext w) s = w ∧
    (effectiveAddress (.ix2 w) s).toNat = (s.h.toNat * 256 + s.x.toNat + w.toNat) % 65536 ∧
    (effectiveAddress (.ix1 b) s).toNat = (s.h.toNat * 256 + s.x.toNat + b.toNat) % 65536 ∧
    (effectiveAddress .ix s).toNat = s.h.toNat * 256 + s.x.toNat ∧
    (effectiveAddress (.sp2 w) s).toNat = (s.sp.toNat + w.toNat) % 65536 ∧
    (effectiveAddress (.sp1 b) s).toNat = (s.sp.toNat + b.toNat) % 65536

/-- R400 to R404, 40_addressing_modes.md R161: `JMP` in its five forms loads the effective address itself;
`JSR` in its five forms and `BSR` push the next instruction's address, low byte first, and jump; `RTS`
pulls an address, high byte first. No flag and no other register changes. -/
def Obligations.JumpsAndCalls : Prop :=
  (∀ (m : JumpAddr) (s : State),
    Completes (.jmpOf m) s { s with pc := effectiveAddress m.addr s }) ∧
  (∀ (i : Instr) (destination : State → Word),
    ((∃ m, i = .jsrOf m ∧ destination = effectiveAddress m.addr) ∨
      (∃ rr, i = .bsr rr ∧ destination = fun s => s.pc + rr.signExtend 16)) →
    ∀ s s1 s2 : State, busWrite s.sp (loByte s.pc) s = .ok () s1 →
      busWrite (s.sp - 1) (hiByte s.pc) s1 = .ok () s2 →
      CompletesStoring [s.sp, s.sp - 1] i s { s2 with sp := s.sp - 2, pc := destination s } ∧
      WriteFrame [s.sp, s.sp - 1] s s2 ∧
      Stored s.sp (loByte s.pc) s s2 ∧ Stored (s.sp - 1) (hiByte s.pc) s s2) ∧
  (∀ (s s1 s2 : State) (hi lo : Byte), busRead (s.sp + 1) s = .ok hi s1 →
    busRead (s.sp + 2) s1 = .ok lo s2 →
    Completes .rts s { s2 with sp := s.sp + 2, pc := wordOf hi lo } ∧ ReadFrame s s2)

/-- R420 to R427: `PSHA`, `PSHH` and `PSHX` write the register at `SP` and decrement `SP`; `PULA`,
`PULH` and `PULX` increment `SP` and load the register from it. No flag changes. -/
def Obligations.PushAndPull : Prop :=
  WriteClaim .psha State.sp State.a (fun t => { t with sp := t.sp - 1 }) ∧
  WriteClaim .pshh State.sp State.h (fun t => { t with sp := t.sp - 1 }) ∧
  WriteClaim .pshx State.sp State.x (fun t => { t with sp := t.sp - 1 }) ∧
  ReadClaim .pula (fun s => s.sp + 1) (fun v t => { t with sp := t.sp + 1, a := v }) ∧
  ReadClaim .pulh (fun s => s.sp + 1) (fun v t => { t with sp := t.sp + 1, h := v }) ∧
  ReadClaim .pulx (fun s => s.sp + 1) (fun v t => { t with sp := t.sp + 1, x := v })

/-- R430, R431, R441, R442: `TSX` loads `HX` with `SP + 1` and `TXS` loads `SP` with `HX - 1`, modulo
2^16; `TAX` and `TXA` copy a byte and leave `H`. No flag changes. -/
def Obligations.Transfers : Prop :=
  (∀ s : State, ∃ t, Completes .tsx s t ∧ t.hx = s.sp + 1 ∧ t = { s with h := t.h, x := t.x }) ∧
  (∀ s : State, Completes .txs s { s with sp := wordOf s.h s.x - 1 }) ∧
  (∀ s : State, Completes .tax s { s with x := s.a }) ∧
  (∀ s : State, Completes .txa s { s with a := s.x })

/-- 10_state.md R25: `RSP` sets the low byte of `SP` to `$FF` and leaves the high byte. -/
def Obligations.ResetStackPointer : Prop :=
  ∀ s : State, ∃ t, Completes .rsp s t ∧ loByte t.sp = 0xFF ∧ hiByte t.sp = hiByte s.sp ∧
    t = { s with sp := t.sp }

/-! ### Control (48_control_system.md) -/

/-- R461, R532, 60_exceptions.md R508: `SWI`, masked or not, takes the exception with the address of
the next instruction as return address, through `$FFFC` or, in monitor mode, `$FEFC`. That this vector
moves in monitor mode is the spec's own inference (R508, log entry 20): its source gives the monitor's
reset vector only. -/
def Obligations.SoftwareInterrupt : Prop :=
  EntryClaim (exec .swi) id (fun s => if s.monitorMode then 0xFEFC else 0xFFFC)

/-- R462: `RTI` pulls the CCR (all six flags, bits 6 and 5 ignored), `A`, `X` and `PC`, and leaves
`H`. -/
def Obligations.ReturnFromInterrupt : Prop :=
  ∀ (s s1 s2 s3 s4 s5 : State) (c a x hi lo : Byte),
    busRead (s.sp + 1) s = .ok c s1 → busRead (s.sp + 2) s1 = .ok a s2 →
    busRead (s.sp + 3) s2 = .ok x s3 → busRead (s.sp + 4) s3 = .ok hi s4 →
    busRead (s.sp + 5) s4 = .ok lo s5 →
    Completes .rti s
      { s5 with
        a := a, x := x, sp := s.sp + 5, pc := wordOf hi lo
        ccr :=
          { v := c.getLsbD 7, h := c.getLsbD 4, i := c.getLsbD 3
            n := c.getLsbD 2, z := c.getLsbD 1, c := c.getLsbD 0 } } ∧
    ReadFrame s s5

/-- 60_exceptions.md R535, 48_control_system.md R461, R462: `SWI` and then, with nothing in between,
`RTI`, in RAM and with no reset, restores every register and flag, including `I` and `SP`. -/
def Obligations.SwiThenRti : Prop :=
  ∀ s : State, Uncut s →
    (∀ k, k ≤ 4 → regionKind s.device (s.sp - BitVec.ofNat 16 k) = .ram) →
    ∃ t u, exec .swi s = .next t ∧ exec .rti t = .next u ∧
      u.a = s.a ∧ u.x = s.x ∧ u.h = s.h ∧ u.sp = s.sp ∧ u.pc = s.pc ∧ u.ccr = s.ccr ∧
      u.iWindow = none ∧ u.run = s.run

/-- 10_state.md R27, R28, 48_control_system.md R460: the CCR as a byte. Bits 6 and 5 read as 1 whatever
was written; loading the byte that was read changes nothing; reading back a loaded byte gives it with
bits 6 and 5 set. -/
def Obligations.CcrByte : Prop :=
  (∀ c : Ccr, (ccrByte c).getLsbD 7 = c.v ∧ (ccrByte c).getLsbD 6 = true ∧
    (ccrByte c).getLsbD 5 = true ∧ (ccrByte c).getLsbD 4 = c.h ∧ (ccrByte c).getLsbD 3 = c.i ∧
    (ccrByte c).getLsbD 2 = c.n ∧ (ccrByte c).getLsbD 1 = c.z ∧ (ccrByte c).getLsbD 0 = c.c) ∧
  (∀ c : Ccr, loadCcr (ccrByte c) = c) ∧
  (∀ b : Byte, ccrByte (loadCcr b) = b ||| 0x60)

/-- R463 to R469, R480, R481: `TAP`, `TPA`, `CLC`, `SEC`, `CLI`, `SEI`, `NOP`, `STOP` and `WAIT`. `TAP`,
`CLI` and `SEI` open the window of 60_exceptions.md R513 exactly when they change `I`; `STOP` and
`WAIT` clear `I` with no window and enter their run states. -/
def Obligations.CcrInstructions : Prop :=
  ∀ s : State,
    let window (new : Bool) : Option Bool := if new = s.ccr.i then s.iWindow else some s.ccr.i
    Completes .tap s
      { s with
        ccr :=
          { v := s.a.getLsbD 7, h := s.a.getLsbD 4, i := s.a.getLsbD 3
            n := s.a.getLsbD 2, z := s.a.getLsbD 1, c := s.a.getLsbD 0 }
        iWindow := window (s.a.getLsbD 3) } ∧
    Completes .tpa s { s with a := ccrByte s.ccr } ∧
    Completes .clc s { s with ccr := { s.ccr with c := false } } ∧
    Completes .sec s { s with ccr := { s.ccr with c := true } } ∧
    Completes .cli s { s with ccr := { s.ccr with i := false }, iWindow := window false } ∧
    Completes .sei s { s with ccr := { s.ccr with i := true }, iWindow := window true } ∧
    Completes .nop s s ∧
    Completes .stop s { s with ccr := { s.ccr with i := false }, run := .stopped } ∧
    Completes .wait s { s with ccr := { s.ccr with i := false }, run := .waiting }
end

