-- ==== Sys2Proof/Laws/Memory.lean ====
section
/-!
SUPPORT. The laws of memory: reading after writing, and that every memory operation keeps the
canonical form.
-/

namespace Sys2Proof.Machine

theorem read_write_same (m : Memory) (a : Nat) (v : Byte) : (m.write a v).read a = some v := by
  induction m with
  | nil => simp [Memory.write, Memory.read]
  | cons e m ih =>
    obtain ⟨k, b⟩ := e
    simp only [Memory.write]
    split
    · simp [Memory.read]
    · split
      · simp [Memory.read]
      · rename_i h1 h2
        simp [Memory.read, h2, ih]

theorem read_write_other (m : Memory) {a b : Nat} (v : Byte) (h : b ≠ a) :
    (m.write a v).read b = m.read b := by
  induction m with
  | nil => simp [Memory.write, Memory.read, h]
  | cons e m ih =>
    obtain ⟨k, w⟩ := e
    simp only [Memory.write]
    split
    · simp [Memory.read, h]
    · split
      · rename_i h1 h2
        subst h2
        simp [Memory.read, h]
      · simp only [Memory.read, ih]

theorem wfFrom_weaken {lo lo' : Nat} (h : lo' ≤ lo) (m : Memory) :
    Memory.wfFrom lo m = true → Memory.wfFrom lo' m = true := by
  cases m with
  | nil => simp [Memory.wfFrom]
  | cons e m =>
    obtain ⟨k, b⟩ := e
    simp only [Memory.wfFrom, Bool.and_eq_true, decide_eq_true_eq]
    rintro ⟨⟨h1, h2⟩, h3⟩
    exact ⟨⟨by omega, h2⟩, h3⟩

theorem wfFrom_write (m : Memory) : ∀ (lo a : Nat) (v : Byte), lo ≤ a → a < 65536 →
    Memory.wfFrom lo m = true → Memory.wfFrom lo (m.write a v) = true := by
  induction m with
  | nil => intro lo a v h1 h2 _; simp [Memory.write, Memory.wfFrom, h1, h2]
  | cons e m ih =>
    obtain ⟨k, b⟩ := e
    intro lo a v h1 h2 h3
    simp only [Memory.wfFrom, Bool.and_eq_true, decide_eq_true_eq] at h3
    simp only [Memory.write]
    split
    · rename_i h
      simp only [Memory.wfFrom, Bool.and_eq_true, decide_eq_true_eq]
      exact ⟨⟨h1, h2⟩, ⟨by omega, h3.1.2⟩, h3.2⟩
    · split
      · rename_i h
        subst h
        simp only [Memory.wfFrom, Bool.and_eq_true, decide_eq_true_eq]
        exact ⟨⟨h1, h2⟩, h3.2⟩
      · simp only [Memory.wfFrom, Bool.and_eq_true, decide_eq_true_eq]
        exact ⟨h3.1, ih (k + 1) a v (by omega) h2 h3.2⟩

/-- A write of any byte at any 16-bit address keeps the canonical form. -/
theorem wf_write (m : Memory) (a : Word) (v : Byte) (h : m.wf = true) :
    (m.write a.toNat v).wf = true :=
  wfFrom_write m 0 a.toNat v (Nat.zero_le _) a.isLt h

theorem wfFrom_forget (lost : Nat → Bool) (m : Memory) : ∀ lo : Nat,
    Memory.wfFrom lo m = true → Memory.wfFrom lo (m.forget lost) = true := by
  induction m with
  | nil => intro lo _; rfl
  | cons e m ih =>
    obtain ⟨k, b⟩ := e
    intro lo h
    simp only [Memory.wfFrom, Bool.and_eq_true, decide_eq_true_eq] at h
    simp only [Memory.forget]
    split
    · exact wfFrom_weaken (by omega) _ (ih (k + 1) h.2)
    · simp only [Memory.wfFrom, Bool.and_eq_true, decide_eq_true_eq]
      exact ⟨h.1, ih (k + 1) h.2⟩

/-- A loss of power keeps the canonical form. -/
theorem wf_forget (lost : Nat → Bool) (m : Memory) (h : m.wf = true) : (m.forget lost).wf = true :=
  wfFrom_forget lost m 0 h

theorem read_forget (lost : Nat → Bool) (m : Memory) (a : Nat) :
    (m.forget lost).read a = if lost a then none else m.read a := by
  induction m with
  | nil => simp [Memory.forget, Memory.read]
  | cons e m ih =>
    obtain ⟨k, b⟩ := e
    simp only [Memory.forget]
    by_cases hk : lost k = true
    · by_cases h : a = k
      · subst h; simp [ih, hk]
      · simp [hk, ih, Memory.read, h]
    · by_cases h : a = k
      · subst h; simp [hk, Memory.read]
      · simp [hk, ih, Memory.read, h]

/-- What `byteAt` depends on. -/
theorem byteAt_congr {s t : State} (h : t.mem = s.mem) (hd : t.device = s.device)
    (hp : t.powerLosses = s.powerLosses) (a : Word) : t.byteAt a = s.byteAt a := by
  simp [State.byteAt, h, hd, hp]

theorem byteAt_write_same (s : State) (a : Word) (v : Byte) :
    State.byteAt { s with mem := s.mem.write a.toNat v } a = v := by
  simp [State.byteAt, read_write_same]

theorem byteAt_write_other (s : State) {a b : Word} (v : Byte) (h : b ≠ a) :
    State.byteAt { s with mem := s.mem.write a.toNat v } b = s.byteAt b := by
  have : b.toNat ≠ a.toNat := fun e => h (BitVec.eq_of_toNat_eq e)
  simp [State.byteAt, read_write_other _ v this]

/-- A loss of power leaves every byte outside RAM. -/
theorem byteAt_losePower (s : State) {b : Word} (h : regionKind s.device b ≠ .ram) :
    (losePower s).byteAt b = s.byteAt b := by
  simp [State.byteAt, losePower, read_forget, h]

/-- A reset other than a power-on reset leaves the memory before its vector fetch. -/
theorem memoryAfterReset_other {r : ResetSource} (s : State) (h : r ≠ .powerOn) :
    memoryAfterReset r s = s := by
  simp [memoryAfterReset, h]

/-- Every reset leaves every byte outside RAM. -/
theorem byteAt_memoryAfterReset (r : ResetSource) (s : State) {b : Word}
    (h : regionKind s.device b ≠ .ram) : (memoryAfterReset r s).byteAt b = s.byteAt b := by
  unfold memoryAfterReset
  split
  · exact byteAt_losePower s h
  · rfl

theorem memoryAfterReset_wf (r : ResetSource) (s : State) (h : s.mem.wf = true) :
    (memoryAfterReset r s).mem.wf = true := by
  unfold memoryAfterReset
  split
  · exact wf_forget _ _ h
  · exact h

@[simp] theorem memoryAfterReset_device (r : ResetSource) (s : State) :
    (memoryAfterReset r s).device = s.device := by
  unfold memoryAfterReset; split <;> rfl
@[simp] theorem memoryAfterReset_modePin (r : ResetSource) (s : State) :
    (memoryAfterReset r s).modePin = s.modePin := by
  unfold memoryAfterReset; split <;> rfl
@[simp] theorem memoryAfterReset_draws (r : ResetSource) (s : State) :
    (memoryAfterReset r s).draws = s.draws := by
  unfold memoryAfterReset; split <;> rfl

end Sys2Proof.Machine
end

