-- ==== Sys2Proof/Laws/State.lean ====
section
/-!
SUPPORT. The small lemmas of the updates of the state that have a name: one lemma per field per
update, true by `rfl`, for `simp`.
-/

namespace Sys2Proof.Machine

@[simp] theorem State_setHx_a (w : Word) (s : State) : (State.setHx s w).a = s.a := rfl
@[simp] theorem State_setHx_h (w : Word) (s : State) : (State.setHx s w).h = hiByte w := rfl
@[simp] theorem State_setHx_x (w : Word) (s : State) : (State.setHx s w).x = loByte w := rfl
@[simp] theorem State_setHx_sp (w : Word) (s : State) : (State.setHx s w).sp = s.sp := rfl
@[simp] theorem State_setHx_pc (w : Word) (s : State) : (State.setHx s w).pc = s.pc := rfl
@[simp] theorem State_setHx_ccr (w : Word) (s : State) : (State.setHx s w).ccr = s.ccr := rfl
@[simp] theorem State_setHx_run (w : Word) (s : State) : (State.setHx s w).run = s.run := rfl
@[simp] theorem State_setHx_iWindow (w : Word) (s : State) : (State.setHx s w).iWindow = s.iWindow := rfl
@[simp] theorem State_setHx_monitorMode (w : Word) (s : State) : (State.setHx s w).monitorMode = s.monitorMode := rfl
@[simp] theorem State_setHx_mem (w : Word) (s : State) : (State.setHx s w).mem = s.mem := rfl
@[simp] theorem State_setHx_device (w : Word) (s : State) : (State.setHx s w).device = s.device := rfl
@[simp] theorem State_setHx_ireq (w : Word) (s : State) : (State.setHx s w).ireq = s.ireq := rfl
@[simp] theorem State_setHx_irqPin (w : Word) (s : State) : (State.setHx s w).irqPin = s.irqPin := rfl
@[simp] theorem State_setHx_modePin (w : Word) (s : State) : (State.setHx s w).modePin = s.modePin := rfl
@[simp] theorem State_setHx_resetIn (w : Word) (s : State) : (State.setHx s w).resetIn = s.resetIn := rfl
@[simp] theorem State_setHx_inputs (w : Word) (s : State) : (State.setHx s w).inputs = s.inputs := rfl
@[simp] theorem State_setHx_ioIn (w : Word) (s : State) : (State.setHx s w).ioIn = s.ioIn := rfl
@[simp] theorem State_setHx_ioLog (w : Word) (s : State) : (State.setHx s w).ioLog = s.ioLog := rfl
@[simp] theorem State_setHx_lastReset (w : Word) (s : State) : (State.setHx s w).lastReset = s.lastReset := rfl
@[simp] theorem State_setHx_recent (w : Word) (s : State) : (State.setHx s w).recent = s.recent := rfl
@[simp] theorem State_setHx_draws (w : Word) (s : State) : (State.setHx s w).draws = s.draws := rfl
@[simp] theorem State_setHx_powerLosses (w : Word) (s : State) : (State.setHx s w).powerLosses = s.powerLosses := rfl

@[simp] theorem postInc_a (s : State) : (postInc s).a = s.a := rfl
@[simp] theorem postInc_h (s : State) : (postInc s).h = hiByte (s.hx + 1) := rfl
@[simp] theorem postInc_x (s : State) : (postInc s).x = loByte (s.hx + 1) := rfl
@[simp] theorem postInc_sp (s : State) : (postInc s).sp = s.sp := rfl
@[simp] theorem postInc_pc (s : State) : (postInc s).pc = s.pc := rfl
@[simp] theorem postInc_ccr (s : State) : (postInc s).ccr = s.ccr := rfl
@[simp] theorem postInc_run (s : State) : (postInc s).run = s.run := rfl
@[simp] theorem postInc_iWindow (s : State) : (postInc s).iWindow = s.iWindow := rfl
@[simp] theorem postInc_monitorMode (s : State) : (postInc s).monitorMode = s.monitorMode := rfl
@[simp] theorem postInc_mem (s : State) : (postInc s).mem = s.mem := rfl
@[simp] theorem postInc_device (s : State) : (postInc s).device = s.device := rfl
@[simp] theorem postInc_ireq (s : State) : (postInc s).ireq = s.ireq := rfl
@[simp] theorem postInc_irqPin (s : State) : (postInc s).irqPin = s.irqPin := rfl
@[simp] theorem postInc_modePin (s : State) : (postInc s).modePin = s.modePin := rfl
@[simp] theorem postInc_resetIn (s : State) : (postInc s).resetIn = s.resetIn := rfl
@[simp] theorem postInc_inputs (s : State) : (postInc s).inputs = s.inputs := rfl
@[simp] theorem postInc_ioIn (s : State) : (postInc s).ioIn = s.ioIn := rfl
@[simp] theorem postInc_ioLog (s : State) : (postInc s).ioLog = s.ioLog := rfl
@[simp] theorem postInc_lastReset (s : State) : (postInc s).lastReset = s.lastReset := rfl
@[simp] theorem postInc_recent (s : State) : (postInc s).recent = s.recent := rfl
@[simp] theorem postInc_draws (s : State) : (postInc s).draws = s.draws := rfl
@[simp] theorem postInc_powerLosses (s : State) : (postInc s).powerLosses = s.powerLosses := rfl

@[simp] theorem loadHx_a (w : Word) (s : State) : (loadHx w s).a = s.a := rfl
@[simp] theorem loadHx_h (w : Word) (s : State) : (loadHx w s).h = hiByte w := rfl
@[simp] theorem loadHx_x (w : Word) (s : State) : (loadHx w s).x = loByte w := rfl
@[simp] theorem loadHx_sp (w : Word) (s : State) : (loadHx w s).sp = s.sp := rfl
@[simp] theorem loadHx_pc (w : Word) (s : State) : (loadHx w s).pc = s.pc := rfl
@[simp] theorem loadHx_ccr (w : Word) (s : State) : (loadHx w s).ccr = moveFlags16 s.ccr w := rfl
@[simp] theorem loadHx_run (w : Word) (s : State) : (loadHx w s).run = s.run := rfl
@[simp] theorem loadHx_iWindow (w : Word) (s : State) : (loadHx w s).iWindow = s.iWindow := rfl
@[simp] theorem loadHx_monitorMode (w : Word) (s : State) : (loadHx w s).monitorMode = s.monitorMode := rfl
@[simp] theorem loadHx_mem (w : Word) (s : State) : (loadHx w s).mem = s.mem := rfl
@[simp] theorem loadHx_device (w : Word) (s : State) : (loadHx w s).device = s.device := rfl
@[simp] theorem loadHx_ireq (w : Word) (s : State) : (loadHx w s).ireq = s.ireq := rfl
@[simp] theorem loadHx_irqPin (w : Word) (s : State) : (loadHx w s).irqPin = s.irqPin := rfl
@[simp] theorem loadHx_modePin (w : Word) (s : State) : (loadHx w s).modePin = s.modePin := rfl
@[simp] theorem loadHx_resetIn (w : Word) (s : State) : (loadHx w s).resetIn = s.resetIn := rfl
@[simp] theorem loadHx_inputs (w : Word) (s : State) : (loadHx w s).inputs = s.inputs := rfl
@[simp] theorem loadHx_ioIn (w : Word) (s : State) : (loadHx w s).ioIn = s.ioIn := rfl
@[simp] theorem loadHx_ioLog (w : Word) (s : State) : (loadHx w s).ioLog = s.ioLog := rfl
@[simp] theorem loadHx_lastReset (w : Word) (s : State) : (loadHx w s).lastReset = s.lastReset := rfl
@[simp] theorem loadHx_recent (w : Word) (s : State) : (loadHx w s).recent = s.recent := rfl
@[simp] theorem loadHx_draws (w : Word) (s : State) : (loadHx w s).draws = s.draws := rfl
@[simp] theorem loadHx_powerLosses (w : Word) (s : State) : (loadHx w s).powerLosses = s.powerLosses := rfl

@[simp] theorem State_load_a (a : Word) (b : Byte) (s : State) : (State.load s a b).a = s.a := rfl
@[simp] theorem State_load_h (a : Word) (b : Byte) (s : State) : (State.load s a b).h = s.h := rfl
@[simp] theorem State_load_x (a : Word) (b : Byte) (s : State) : (State.load s a b).x = s.x := rfl
@[simp] theorem State_load_sp (a : Word) (b : Byte) (s : State) : (State.load s a b).sp = s.sp := rfl
@[simp] theorem State_load_pc (a : Word) (b : Byte) (s : State) : (State.load s a b).pc = s.pc := rfl
@[simp] theorem State_load_ccr (a : Word) (b : Byte) (s : State) : (State.load s a b).ccr = s.ccr := rfl
@[simp] theorem State_load_run (a : Word) (b : Byte) (s : State) : (State.load s a b).run = s.run := rfl
@[simp] theorem State_load_iWindow (a : Word) (b : Byte) (s : State) : (State.load s a b).iWindow = s.iWindow := rfl
@[simp] theorem State_load_monitorMode (a : Word) (b : Byte) (s : State) : (State.load s a b).monitorMode = s.monitorMode := rfl
@[simp] theorem State_load_mem (a : Word) (b : Byte) (s : State) : (State.load s a b).mem = s.mem.write a.toNat b := rfl
@[simp] theorem State_load_device (a : Word) (b : Byte) (s : State) : (State.load s a b).device = s.device := rfl
@[simp] theorem State_load_ireq (a : Word) (b : Byte) (s : State) : (State.load s a b).ireq = s.ireq := rfl
@[simp] theorem State_load_irqPin (a : Word) (b : Byte) (s : State) : (State.load s a b).irqPin = s.irqPin := rfl
@[simp] theorem State_load_modePin (a : Word) (b : Byte) (s : State) : (State.load s a b).modePin = s.modePin := rfl
@[simp] theorem State_load_resetIn (a : Word) (b : Byte) (s : State) : (State.load s a b).resetIn = s.resetIn := rfl
@[simp] theorem State_load_inputs (a : Word) (b : Byte) (s : State) : (State.load s a b).inputs = s.inputs := rfl
@[simp] theorem State_load_ioIn (a : Word) (b : Byte) (s : State) : (State.load s a b).ioIn = s.ioIn := rfl
@[simp] theorem State_load_ioLog (a : Word) (b : Byte) (s : State) : (State.load s a b).ioLog = s.ioLog := rfl
@[simp] theorem State_load_lastReset (a : Word) (b : Byte) (s : State) : (State.load s a b).lastReset = s.lastReset := rfl
@[simp] theorem State_load_recent (a : Word) (b : Byte) (s : State) : (State.load s a b).recent = s.recent := rfl
@[simp] theorem State_load_draws (a : Word) (b : Byte) (s : State) : (State.load s a b).draws = s.draws := rfl
@[simp] theorem State_load_powerLosses (a : Word) (b : Byte) (s : State) : (State.load s a b).powerLosses = s.powerLosses := rfl

@[simp] theorem forceResetState_a (source : ResetSource) (s : State) : (forceResetState source s).a = Config.freeByte s.draws := rfl
@[simp] theorem forceResetState_h (source : ResetSource) (s : State) : (forceResetState source s).h = 0 := rfl
@[simp] theorem forceResetState_x (source : ResetSource) (s : State) : (forceResetState source s).x = Config.freeByte (s.draws + 1) := rfl
@[simp] theorem forceResetState_sp (source : ResetSource) (s : State) : (forceResetState source s).sp = 0x00FF := rfl
@[simp] theorem forceResetState_pc (source : ResetSource) (s : State) : (forceResetState source s).pc = s.pc := rfl
@[simp] theorem forceResetState_ccr (source : ResetSource) (s : State) : (forceResetState source s).ccr = ⟨Config.freeBit (s.draws + 2), Config.freeBit (s.draws + 3), true, Config.freeBit (s.draws + 4), Config.freeBit (s.draws + 5), Config.freeBit (s.draws + 6)⟩ := rfl
@[simp] theorem forceResetState_run (source : ResetSource) (s : State) : (forceResetState source s).run = .running := rfl
@[simp] theorem forceResetState_iWindow (source : ResetSource) (s : State) : (forceResetState source s).iWindow = none := rfl
@[simp] theorem forceResetState_monitorMode (source : ResetSource) (s : State) : (forceResetState source s).monitorMode = s.modePin := rfl
@[simp] theorem forceResetState_mem (source : ResetSource) (s : State) : (forceResetState source s).mem = s.mem := rfl
@[simp] theorem forceResetState_device (source : ResetSource) (s : State) : (forceResetState source s).device = s.device := rfl
@[simp] theorem forceResetState_ireq (source : ResetSource) (s : State) : (forceResetState source s).ireq = s.ireq := rfl
@[simp] theorem forceResetState_irqPin (source : ResetSource) (s : State) : (forceResetState source s).irqPin = s.irqPin := rfl
@[simp] theorem forceResetState_modePin (source : ResetSource) (s : State) : (forceResetState source s).modePin = s.modePin := rfl
@[simp] theorem forceResetState_resetIn (source : ResetSource) (s : State) : (forceResetState source s).resetIn = none := rfl
@[simp] theorem forceResetState_inputs (source : ResetSource) (s : State) : (forceResetState source s).inputs = s.inputs := rfl
@[simp] theorem forceResetState_ioIn (source : ResetSource) (s : State) : (forceResetState source s).ioIn = s.ioIn := rfl
@[simp] theorem forceResetState_ioLog (source : ResetSource) (s : State) : (forceResetState source s).ioLog = s.ioLog := rfl
@[simp] theorem forceResetState_lastReset (source : ResetSource) (s : State) : (forceResetState source s).lastReset = source := rfl
@[simp] theorem forceResetState_recent (source : ResetSource) (s : State) : (forceResetState source s).recent = [] := rfl
@[simp] theorem forceResetState_draws (source : ResetSource) (s : State) : (forceResetState source s).draws = s.draws + 7 := rfl
@[simp] theorem forceResetState_powerLosses (source : ResetSource) (s : State) : (forceResetState source s).powerLosses = s.powerLosses := rfl

@[simp] theorem moveFlags_v (c : Ccr) (r : Byte) : (moveFlags c r).v = false := rfl
@[simp] theorem moveFlags_h (c : Ccr) (r : Byte) : (moveFlags c r).h = c.h := rfl
@[simp] theorem moveFlags_i (c : Ccr) (r : Byte) : (moveFlags c r).i = c.i := rfl
@[simp] theorem moveFlags_n (c : Ccr) (r : Byte) : (moveFlags c r).n = bit7 r := rfl
@[simp] theorem moveFlags_z (c : Ccr) (r : Byte) : (moveFlags c r).z = decide (r = 0) := rfl
@[simp] theorem moveFlags_c (c : Ccr) (r : Byte) : (moveFlags c r).c = c.c := rfl

@[simp] theorem moveFlags16_v (c : Ccr) (r : Word) : (moveFlags16 c r).v = false := rfl
@[simp] theorem moveFlags16_h (c : Ccr) (r : Word) : (moveFlags16 c r).h = c.h := rfl
@[simp] theorem moveFlags16_i (c : Ccr) (r : Word) : (moveFlags16 c r).i = c.i := rfl
@[simp] theorem moveFlags16_n (c : Ccr) (r : Word) : (moveFlags16 c r).n = bit15 r := rfl
@[simp] theorem moveFlags16_z (c : Ccr) (r : Word) : (moveFlags16 c r).z = decide (r = 0) := rfl
@[simp] theorem moveFlags16_c (c : Ccr) (r : Word) : (moveFlags16 c r).c = c.c := rfl

@[simp] theorem clearFlags_v (c : Ccr) : (clearFlags c).v = false := rfl
@[simp] theorem clearFlags_h (c : Ccr) : (clearFlags c).h = c.h := rfl
@[simp] theorem clearFlags_i (c : Ccr) : (clearFlags c).i = c.i := rfl
@[simp] theorem clearFlags_n (c : Ccr) : (clearFlags c).n = false := rfl
@[simp] theorem clearFlags_z (c : Ccr) : (clearFlags c).z = true := rfl
@[simp] theorem clearFlags_c (c : Ccr) : (clearFlags c).c = c.c := rfl

@[simp] theorem shiftFlags_v (c : Ccr) (r : Byte) (out : Bool) : (shiftFlags c r out).v = (bit7 r ^^ out) := rfl
@[simp] theorem shiftFlags_h (c : Ccr) (r : Byte) (out : Bool) : (shiftFlags c r out).h = c.h := rfl
@[simp] theorem shiftFlags_i (c : Ccr) (r : Byte) (out : Bool) : (shiftFlags c r out).i = c.i := rfl
@[simp] theorem shiftFlags_n (c : Ccr) (r : Byte) (out : Bool) : (shiftFlags c r out).n = bit7 r := rfl
@[simp] theorem shiftFlags_z (c : Ccr) (r : Byte) (out : Bool) : (shiftFlags c r out).z = decide (r = 0) := rfl
@[simp] theorem shiftFlags_c (c : Ccr) (r : Byte) (out : Bool) : (shiftFlags c r out).c = out := rfl

@[simp] theorem branchIf_a (b : Bool) (rr : Byte) (s : State) : (branchIf b rr s).a = s.a := by cases b <;> rfl
@[simp] theorem branchIf_h (b : Bool) (rr : Byte) (s : State) : (branchIf b rr s).h = s.h := by cases b <;> rfl
@[simp] theorem branchIf_x (b : Bool) (rr : Byte) (s : State) : (branchIf b rr s).x = s.x := by cases b <;> rfl
@[simp] theorem branchIf_sp (b : Bool) (rr : Byte) (s : State) : (branchIf b rr s).sp = s.sp := by cases b <;> rfl
@[simp] theorem branchIf_ccr (b : Bool) (rr : Byte) (s : State) : (branchIf b rr s).ccr = s.ccr := by cases b <;> rfl
@[simp] theorem branchIf_run (b : Bool) (rr : Byte) (s : State) : (branchIf b rr s).run = s.run := by cases b <;> rfl
@[simp] theorem branchIf_iWindow (b : Bool) (rr : Byte) (s : State) : (branchIf b rr s).iWindow = s.iWindow := by cases b <;> rfl
@[simp] theorem branchIf_monitorMode (b : Bool) (rr : Byte) (s : State) : (branchIf b rr s).monitorMode = s.monitorMode := by cases b <;> rfl
@[simp] theorem branchIf_mem (b : Bool) (rr : Byte) (s : State) : (branchIf b rr s).mem = s.mem := by cases b <;> rfl
@[simp] theorem branchIf_device (b : Bool) (rr : Byte) (s : State) : (branchIf b rr s).device = s.device := by cases b <;> rfl
@[simp] theorem branchIf_ireq (b : Bool) (rr : Byte) (s : State) : (branchIf b rr s).ireq = s.ireq := by cases b <;> rfl
@[simp] theorem branchIf_irqPin (b : Bool) (rr : Byte) (s : State) : (branchIf b rr s).irqPin = s.irqPin := by cases b <;> rfl
@[simp] theorem branchIf_modePin (b : Bool) (rr : Byte) (s : State) : (branchIf b rr s).modePin = s.modePin := by cases b <;> rfl
@[simp] theorem branchIf_resetIn (b : Bool) (rr : Byte) (s : State) : (branchIf b rr s).resetIn = s.resetIn := by cases b <;> rfl
@[simp] theorem branchIf_inputs (b : Bool) (rr : Byte) (s : State) : (branchIf b rr s).inputs = s.inputs := by cases b <;> rfl
@[simp] theorem branchIf_ioIn (b : Bool) (rr : Byte) (s : State) : (branchIf b rr s).ioIn = s.ioIn := by cases b <;> rfl
@[simp] theorem branchIf_ioLog (b : Bool) (rr : Byte) (s : State) : (branchIf b rr s).ioLog = s.ioLog := by cases b <;> rfl
@[simp] theorem branchIf_lastReset (b : Bool) (rr : Byte) (s : State) : (branchIf b rr s).lastReset = s.lastReset := by cases b <;> rfl
@[simp] theorem branchIf_recent (b : Bool) (rr : Byte) (s : State) : (branchIf b rr s).recent = s.recent := by cases b <;> rfl
@[simp] theorem branchIf_draws (b : Bool) (rr : Byte) (s : State) : (branchIf b rr s).draws = s.draws := by cases b <;> rfl
@[simp] theorem branchIf_powerLosses (b : Bool) (rr : Byte) (s : State) : (branchIf b rr s).powerLosses = s.powerLosses := by cases b <;> rfl
@[simp] theorem branchIf_true (rr : Byte) (s : State) : branchIf true rr s = { s with pc := target s rr } := rfl
@[simp] theorem branchIf_false (rr : Byte) (s : State) : branchIf false rr s = s := rfl

@[simp] theorem openWindow_a (b : Bool) (s : State) : (openWindow b s).a = s.a := by
  unfold openWindow; split <;> rfl
@[simp] theorem openWindow_h (b : Bool) (s : State) : (openWindow b s).h = s.h := by
  unfold openWindow; split <;> rfl
@[simp] theorem openWindow_x (b : Bool) (s : State) : (openWindow b s).x = s.x := by
  unfold openWindow; split <;> rfl
@[simp] theorem openWindow_sp (b : Bool) (s : State) : (openWindow b s).sp = s.sp := by
  unfold openWindow; split <;> rfl
@[simp] theorem openWindow_pc (b : Bool) (s : State) : (openWindow b s).pc = s.pc := by
  unfold openWindow; split <;> rfl
@[simp] theorem openWindow_ccr (b : Bool) (s : State) : (openWindow b s).ccr = s.ccr := by
  unfold openWindow; split <;> rfl
@[simp] theorem openWindow_run (b : Bool) (s : State) : (openWindow b s).run = s.run := by
  unfold openWindow; split <;> rfl
@[simp] theorem openWindow_monitorMode (b : Bool) (s : State) : (openWindow b s).monitorMode = s.monitorMode := by
  unfold openWindow; split <;> rfl
@[simp] theorem openWindow_mem (b : Bool) (s : State) : (openWindow b s).mem = s.mem := by
  unfold openWindow; split <;> rfl
@[simp] theorem openWindow_device (b : Bool) (s : State) : (openWindow b s).device = s.device := by
  unfold openWindow; split <;> rfl
@[simp] theorem openWindow_ireq (b : Bool) (s : State) : (openWindow b s).ireq = s.ireq := by
  unfold openWindow; split <;> rfl
@[simp] theorem openWindow_irqPin (b : Bool) (s : State) : (openWindow b s).irqPin = s.irqPin := by
  unfold openWindow; split <;> rfl
@[simp] theorem openWindow_modePin (b : Bool) (s : State) : (openWindow b s).modePin = s.modePin := by
  unfold openWindow; split <;> rfl
@[simp] theorem openWindow_resetIn (b : Bool) (s : State) : (openWindow b s).resetIn = s.resetIn := by
  unfold openWindow; split <;> rfl
@[simp] theorem openWindow_inputs (b : Bool) (s : State) : (openWindow b s).inputs = s.inputs := by
  unfold openWindow; split <;> rfl
@[simp] theorem openWindow_ioIn (b : Bool) (s : State) : (openWindow b s).ioIn = s.ioIn := by
  unfold openWindow; split <;> rfl
@[simp] theorem openWindow_ioLog (b : Bool) (s : State) : (openWindow b s).ioLog = s.ioLog := by
  unfold openWindow; split <;> rfl
@[simp] theorem openWindow_lastReset (b : Bool) (s : State) : (openWindow b s).lastReset = s.lastReset := by
  unfold openWindow; split <;> rfl
@[simp] theorem openWindow_recent (b : Bool) (s : State) : (openWindow b s).recent = s.recent := by
  unfold openWindow; split <;> rfl
@[simp] theorem openWindow_draws (b : Bool) (s : State) : (openWindow b s).draws = s.draws := by
  unfold openWindow; split <;> rfl
@[simp] theorem openWindow_powerLosses (b : Bool) (s : State) : (openWindow b s).powerLosses = s.powerLosses := by
  unfold openWindow; split <;> rfl

@[simp] theorem closeWindow_a (s : State) : (closeWindow s).a = s.a := by
  unfold closeWindow; split <;> rfl
@[simp] theorem closeWindow_h (s : State) : (closeWindow s).h = s.h := by
  unfold closeWindow; split <;> rfl
@[simp] theorem closeWindow_x (s : State) : (closeWindow s).x = s.x := by
  unfold closeWindow; split <;> rfl
@[simp] theorem closeWindow_sp (s : State) : (closeWindow s).sp = s.sp := by
  unfold closeWindow; split <;> rfl
@[simp] theorem closeWindow_pc (s : State) : (closeWindow s).pc = s.pc := by
  unfold closeWindow; split <;> rfl
@[simp] theorem closeWindow_ccr (s : State) : (closeWindow s).ccr = s.ccr := by
  unfold closeWindow; split <;> rfl
@[simp] theorem closeWindow_run (s : State) : (closeWindow s).run = s.run := by
  unfold closeWindow; split <;> rfl
@[simp] theorem closeWindow_monitorMode (s : State) : (closeWindow s).monitorMode = s.monitorMode := by
  unfold closeWindow; split <;> rfl
@[simp] theorem closeWindow_mem (s : State) : (closeWindow s).mem = s.mem := by
  unfold closeWindow; split <;> rfl
@[simp] theorem closeWindow_device (s : State) : (closeWindow s).device = s.device := by
  unfold closeWindow; split <;> rfl
@[simp] theorem closeWindow_ireq (s : State) : (closeWindow s).ireq = s.ireq := by
  unfold closeWindow; split <;> rfl
@[simp] theorem closeWindow_irqPin (s : State) : (closeWindow s).irqPin = s.irqPin := by
  unfold closeWindow; split <;> rfl
@[simp] theorem closeWindow_modePin (s : State) : (closeWindow s).modePin = s.modePin := by
  unfold closeWindow; split <;> rfl
@[simp] theorem closeWindow_resetIn (s : State) : (closeWindow s).resetIn = s.resetIn := by
  unfold closeWindow; split <;> rfl
@[simp] theorem closeWindow_inputs (s : State) : (closeWindow s).inputs = s.inputs := by
  unfold closeWindow; split <;> rfl
@[simp] theorem closeWindow_ioIn (s : State) : (closeWindow s).ioIn = s.ioIn := by
  unfold closeWindow; split <;> rfl
@[simp] theorem closeWindow_ioLog (s : State) : (closeWindow s).ioLog = s.ioLog := by
  unfold closeWindow; split <;> rfl
@[simp] theorem closeWindow_lastReset (s : State) : (closeWindow s).lastReset = s.lastReset := by
  unfold closeWindow; split <;> rfl
@[simp] theorem closeWindow_recent (s : State) : (closeWindow s).recent = s.recent := by
  unfold closeWindow; split <;> rfl
@[simp] theorem closeWindow_powerLosses (s : State) : (closeWindow s).powerLosses = s.powerLosses := by
  unfold closeWindow; split <;> rfl
@[simp] theorem closeWindow_iWindow (s : State) : (closeWindow s).iWindow = none := by
  unfold closeWindow; split <;> simp_all

end Sys2Proof.Machine
end

