-- ==== Sys2Proof/Laws/Bus.lean ====
section
/-!
SUPPORT. What each shared operation can do, said once: what an access that completes leaves
unchanged, what one that a reset cuts short leaves behind, and how a property that every access keeps
is kept by a whole sequence of them.
-/

namespace Sys2Proof.Machine

/-! ### Sequences of accesses -/

/-- A property of the state a sequence of accesses ends in, completed or cut short. -/
def Bus.Holds {α : Type} (P : State → Prop) : Bus α → Prop
  | .ok _ s => P s
  | .cut _ s => P s

theorem Bus.holds_ok {α : Type} {P : State → Prop} (v : α) {s : State} (h : P s) :
    (Bus.ok v s).Holds P := h

theorem Bus.holds_andThen {α β : Type} {P : State → Prop} {b : Bus α} {k : α → State → Bus β}
    (h : b.Holds P) (hk : ∀ v s, P s → (k v s).Holds P) : (b.andThen k).Holds P := by
  cases b with
  | ok v s => exact hk v s h
  | cut r s => exact h

@[simp] theorem Bus.andThen_ok {α β : Type} (v : α) (s : State) (k : α → State → Bus β) :
    (Bus.ok v s).andThen k = k v s := rfl

@[simp] theorem Bus.andThen_cut {α β : Type} (r : ResetSource) (s : State)
    (k : α → State → Bus β) : (Bus.cut r s : Bus α).andThen k = .cut r s := rfl

/-- A sequence completes exactly when its first part completes and the rest does after it. -/
theorem Bus.andThen_eq_ok {α β : Type} {b : Bus α} {k : α → State → Bus β} {w : β} {t : State} :
    b.andThen k = .ok w t ↔ ∃ v s, b = .ok v s ∧ k v s = .ok w t := by
  cases b <;> simp [Bus.andThen]

/-- A sequence is cut short in its first part, or in the rest after the first part completed. -/
theorem Bus.andThen_eq_cut {α β : Type} {b : Bus α} {k : α → State → Bus β} {r : ResetSource}
    {t : State} :
    b.andThen k = .cut r t ↔ b = .cut r t ∨ ∃ v s, b = .ok v s ∧ k v s = .cut r t := by
  cases b <;> simp [Bus.andThen]

@[simp] theorem finish_ok (s : State) : finish (.ok () s) = .next s := rfl

@[simp] theorem finish_cut (r : ResetSource) (s : State) :
    finish (.cut r s) = .next (resetCpu r s) := rfl

/-- An instruction made of accesses always has a next state. -/
theorem finish_next (b : Bus Unit) : ∃ t, finish b = .next t := by
  cases b with
  | ok v s => exact ⟨s, rfl⟩
  | cut r s => exact ⟨resetCpu r s, rfl⟩

/-! ### One access -/

/-- The gate of an access opens with the reset under way one access nearer, or cuts with nothing
changed. -/
theorem gate_ok {a : Word} {s t : State} (h : gate a s = .ok () t) :
    isIllegal s.device a = false ∧ t = { s with resetIn := t.resetIn } := by
  unfold gate at h
  split at h
  · cases h
  · split at h
    · cases h
    · cases h; simp_all
  · split at h
    · cases h
    · cases h; exact ⟨by simp_all, rfl⟩

theorem gate_cut {a : Word} {s t : State} {r : ResetSource} (h : gate a s = .cut r t) : t = s := by
  unfold gate at h
  split at h
  · cases h; rfl
  · split at h
    · cases h; rfl
    · cases h
  · split at h
    · cases h; rfl
    · cases h

/-- The gate is open when no reset is under way and the address is not illegal. -/
theorem gate_of_accessible {a : Word} {s : State} (h : Accessible s a) : gate a s = .ok () s := by
  obtain ⟨h1, h2⟩ := h
  simp [gate, h1, h2]

/-- No access is made at an illegal address; it cuts unless a reset that is due came first. -/
theorem gate_of_illegal {a : Word} {s : State} (hd : ¬ ResetDue s) (h : isIllegal s.device a = true) :
    gate a s = .cut .illegalAddress s := by
  unfold gate
  split
  · rename_i source hs
    exact absurd ⟨source, hs⟩ hd
  · simp [h]
  · simp [h]

theorem ReadFrame.of_eq {s t : State}
    (h : t = { s with resetIn := t.resetIn, ioIn := t.ioIn, ioLog := t.ioLog, draws := t.draws }) :
    ReadFrame s t :=
  ⟨h, byteAt_congr (by rw [h]) (by rw [h]) (by rw [h])⟩

theorem readCell_frame (a : Word) (s : State) : ReadFrame s (readCell a s).2 := by
  refine ReadFrame.of_eq ?_
  unfold readCell ioRead drawByte
  split <;> (try split) <;> rfl

theorem ReadFrame.refl (s : State) : ReadFrame s s := ⟨rfl, fun _ => rfl⟩

theorem ReadFrame.trans {s t u : State} (h1 : ReadFrame s t) (h2 : ReadFrame t u) :
    ReadFrame s u :=
  .of_eq (by rw [h2.1, h1.1])

theorem ReadFrame.mem {s t : State} (h : ReadFrame s t) : t.mem = s.mem := by
  rw [h.1]

/-- Everything a read that completes leaves unchanged. -/
theorem busRead_ok {a : Word} {v : Byte} {s t : State} (h : busRead a s = .ok v t) :
    ReadFrame s t := by
  obtain ⟨_, s1, h1, h2⟩ := Bus.andThen_eq_ok.mp h
  cases h2
  refine ReadFrame.trans ?_ (readCell_frame a s1)
  exact .of_eq (by rw [(gate_ok h1).2])

/-- A read cut short changes nothing. -/
theorem busRead_cut {a : Word} {s t : State} {r : ResetSource} (h : busRead a s = .cut r t) :
    t = s := by
  rcases Bus.andThen_eq_cut.mp h with h | ⟨_, _, _, h⟩
  · exact gate_cut h
  · cases h

/-- A read the CPU can make. -/
theorem busRead_of_accessible {a : Word} {s : State} (h : Accessible s a) :
    busRead a s = .ok (readCell a s).1 (readCell a s).2 := by
  simp [busRead, gate_of_accessible h]

theorem writeCell_frame (a : Word) (v : Byte) (s : State) :
    WriteFrame [a] s (writeCell a v s) := by
  unfold WriteFrame writeCell
  split
  · refine ⟨rfl, fun b hb => ?_⟩
    exact byteAt_write_other s v (by simpa using hb)
  · exact ⟨rfl, fun b _ => rfl⟩
  · exact ⟨rfl, fun b _ => rfl⟩
  · exact ⟨rfl, fun b _ => rfl⟩

theorem writeCell_stored (a : Word) (v : Byte) (s : State) : Stored a v s (writeCell a v s) := by
  unfold Stored writeCell
  split
  · rename_i h; simp only [h]; exact byteAt_write_same s a v
  · rename_i h; split <;> simp_all [State.byteAt]

/-- Everything a write that completes does and leaves unchanged. -/
theorem busWrite_ok {a : Word} {v : Byte} {s t : State} (h : busWrite a v s = .ok () t) :
    WriteFrame [a] s t ∧ Stored a v s t := by
  obtain ⟨_, s1, h1, h2⟩ := Bus.andThen_eq_ok.mp h
  cases h2
  have h3 := (gate_ok h1).2
  have hf := writeCell_frame a v s1
  have hs := writeCell_stored a v s1
  have hd : s1.device = s.device := by rw [h3]
  have hb : ∀ b, s1.byteAt b = s.byteAt b :=
    byteAt_congr (by rw [h3]) hd (by rw [h3])
  constructor
  · refine ⟨?_, fun b hb' => ?_⟩
    · rw [hf.1, h3]
    · rw [hf.2 b hb', hb]
  · unfold Stored at *
    rw [hd, hb a] at hs
    exact hs

/-- A write cut short changes nothing. -/
theorem busWrite_cut {a : Word} {v : Byte} {s t : State} {r : ResetSource}
    (h : busWrite a v s = .cut r t) : t = s := by
  rcases Bus.andThen_eq_cut.mp h with h | ⟨_, _, _, h⟩
  · exact gate_cut h
  · cases h

/-- A write the CPU can make. -/
theorem busWrite_of_accessible {a : Word} {v : Byte} {s : State} (h : Accessible s a) :
    busWrite a v s = .ok () (writeCell a v s) := by
  simp [busWrite, gate_of_accessible h]

/-! ### Properties that accesses keep -/

/-- What one access can do to the state, for any property of the state: kept by a change of the
environment's side (`hr`) and by a change of memory at one address (`hw`), it is kept by a read. -/
theorem busRead_holds {P : State → Prop} {a : Word} {s : State} (hs : P s)
    (hr : ∀ t, ReadFrame s t → P t) : (busRead a s).Holds P := by
  cases h : busRead a s with
  | ok v t => exact hr t (busRead_ok h)
  | cut r t => rw [busRead_cut h]; exact hs

theorem busWrite_holds {P : State → Prop} {a : Word} {v : Byte} {s : State} (hs : P s)
    (hw : ∀ t, busWrite a v s = .ok () t → P t) : (busWrite a v s).Holds P := by
  cases h : busWrite a v s with
  | ok u t => exact hw t h
  | cut r t => rw [busWrite_cut h]; exact hs

/-- A write keeps the canonical form of memory. -/
theorem writeCell_wf (a : Word) (v : Byte) (s : State) (h : s.mem.wf = true) :
    (writeCell a v s).mem.wf = true := by
  unfold writeCell
  split
  · exact wf_write s.mem a v h
  · exact h
  · exact h
  · exact h

theorem busWrite_wf {a : Word} {v : Byte} {s t : State} (h : busWrite a v s = .ok () t)
    (hs : s.mem.wf = true) : t.mem.wf = true := by
  obtain ⟨_, s1, h1, h2⟩ := Bus.andThen_eq_ok.mp h
  cases h2
  exact writeCell_wf a v s1 (by rw [(gate_ok h1).2]; exact hs)

/-! ### The reset -/

/-- The registers a reset forces and the memory it leaves, whatever its vector fetch comes to
(60_exceptions.md R503, 70_reset_and_hazards.md R571). -/
theorem resetCpu_forced (r : ResetSource) (s : State) :
    (resetCpu r s).sp = 0x00FF ∧ (resetCpu r s).h = 0 ∧ (resetCpu r s).ccr.i = true ∧
    (resetCpu r s).run = .running ∧ (resetCpu r s).iWindow = none ∧
    (resetCpu r s).mem = (memoryAfterReset r s).mem ∧ (resetCpu r s).device = s.device ∧
    (resetCpu r s).powerLosses = (memoryAfterReset r s).powerLosses ∧
    (resetCpu r s).lastReset = r := by
  have key : ∀ b : Bus Word, b.Holds (fun t => t.sp = 0x00FF ∧ t.h = 0 ∧ t.ccr.i = true ∧
      t.run = .running ∧ t.iWindow = none ∧ t.mem = (memoryAfterReset r s).mem ∧
      t.device = s.device ∧ t.powerLosses = (memoryAfterReset r s).powerLosses ∧
      t.lastReset = r) →
      (endReset b).sp = 0x00FF ∧ (endReset b).h = 0 ∧ (endReset b).ccr.i = true ∧
      (endReset b).run = .running ∧ (endReset b).iWindow = none ∧
      (endReset b).mem = (memoryAfterReset r s).mem ∧ (endReset b).device = s.device ∧
      (endReset b).powerLosses = (memoryAfterReset r s).powerLosses ∧
      (endReset b).lastReset = r := by
    intro b hb
    cases b <;> exact hb
  refine key _ ?_
  refine Bus.holds_andThen (busRead_holds ?_ ?_) fun hi t ht =>
    Bus.holds_andThen (busRead_holds ht ?_) fun lo u hu => Bus.holds_ok _ hu
  · exact ⟨rfl, rfl, rfl, rfl, rfl, rfl, memoryAfterReset_device r s, rfl, rfl⟩
  · intro t ht; rw [ht.1]
    exact ⟨rfl, rfl, rfl, rfl, rfl, rfl, memoryAfterReset_device r s, rfl, rfl⟩
  · intro u hu; rw [hu.1]; exact ht

/-- Resets that start from states that differ only in what a reset forces come to the same. -/
theorem resetCpu_congr {r : ResetSource} {s t : State} (hr : r ≠ .powerOn)
    (h : t = { s with
      a := t.a, h := t.h, x := t.x, sp := t.sp, ccr := t.ccr, run := t.run, iWindow := t.iWindow
      resetIn := t.resetIn, recent := t.recent }) : resetCpu r t = resetCpu r s := by
  unfold resetCpu
  rw [memoryAfterReset_other _ hr, memoryAfterReset_other _ hr, h]
  rfl

/-- The bytes of memory after a reset. -/
theorem byteAt_resetCpu (r : ResetSource) (s : State) (b : Word) :
    (resetCpu r s).byteAt b = (memoryAfterReset r s).byteAt b := by
  obtain ⟨-, -, -, -, -, hm, hd, hp, -⟩ := resetCpu_forced r s
  exact byteAt_congr hm (by rw [hd, memoryAfterReset_device]) hp b

end Sys2Proof.Machine
end

