-- ==== Sys2Proof/Laws/Access.lean ====
section
/-!
SUPPORT. The registers of the CPU take no part in a bus access: an access made with other registers
reads and writes the same and leaves those registers as they were. With it, the sequences of accesses
(pushes, pulls, words, exceptions) are computed from the plain reads and writes they are made of.
-/

namespace Sys2Proof.Machine

/-- A state with the CPU registers of another. -/
def State.withRegisters (s r : State) : State :=
  { s with
    a := r.a, h := r.h, x := r.x, sp := r.sp, pc := r.pc, ccr := r.ccr
    run := r.run, iWindow := r.iWindow }

theorem gate_registers (a : Word) (s r : State) :
    gate a (s.withRegisters r) = match gate a s with
      | .ok u t => .ok u (t.withRegisters r)
      | .cut c t => .cut c (t.withRegisters r) := by
  unfold gate
  simp only [State.withRegisters]
  split
  · rfl
  · by_cases h : isIllegal s.device a = true <;> simp [h]
  · by_cases h : isIllegal s.device a = true <;> simp [h]

theorem readCell_registers (a : Word) (s r : State) :
    readCell a (s.withRegisters r) = ((readCell a s).1, (readCell a s).2.withRegisters r) := by
  unfold readCell ioRead drawByte
  simp only [State.withRegisters, State.byteAt]
  split <;> (try split) <;> rfl

theorem writeCell_registers (a : Word) (v : Byte) (s r : State) :
    writeCell a v (s.withRegisters r) = (writeCell a v s).withRegisters r := by
  unfold writeCell
  simp only [State.withRegisters, State.byteAt]
  split <;> rfl

/-- A read made with other registers. -/
theorem busRead_registers {a : Word} {v : Byte} {s t : State} (r : State)
    (h : busRead a s = .ok v t) :
    busRead a (s.withRegisters r) = .ok v (t.withRegisters r) := by
  obtain ⟨_, s1, h1, h2⟩ := Bus.andThen_eq_ok.mp h
  cases h2
  simp [busRead, gate_registers, h1, readCell_registers]

/-- A write made with other registers. -/
theorem busWrite_registers {a : Word} {v : Byte} {s t : State} (r : State)
    (h : busWrite a v s = .ok () t) :
    busWrite a v (s.withRegisters r) = .ok () (t.withRegisters r) := by
  obtain ⟨_, s1, h1, h2⟩ := Bus.andThen_eq_ok.mp h
  cases h2
  simp [busWrite, gate_registers, h1, writeCell_registers]

/-- A state is itself with its own registers. -/
theorem withRegisters_self (s : State) : s.withRegisters s = s := rfl

/-- After a read the registers are those before it. -/
theorem ReadFrame.registers {s t : State} (h : ReadFrame s t) : t.withRegisters s = t := by
  rw [h.1]; rfl

/-- After a write the registers are those before it. -/
theorem WriteFrame.registers {l : List Word} {s t : State} (h : WriteFrame l s t) :
    t.withRegisters s = t := by
  rw [h.1]; rfl

/-- A read in a state that differs only in its registers, in the form in which the states of a
sequence arise. -/
theorem busRead_of_registers {a : Word} {v : Byte} {s t u : State} (h : busRead a s = .ok v t)
    (hu : u = s.withRegisters u) : busRead a u = .ok v (t.withRegisters u) := by
  have := busRead_registers u h
  rwa [← hu] at this

/-- A write in a state that differs only in its registers. -/
theorem busWrite_of_registers {a : Word} {v : Byte} {s t u : State}
    (h : busWrite a v s = .ok () t) (hu : u = s.withRegisters u) :
    busWrite a v u = .ok () (t.withRegisters u) := by
  have := busWrite_registers u h
  rwa [← hu] at this

/-- Everything a pull that completes does: `SP` up by one, the byte at it, nothing else. -/
theorem pull8_ok {v : Byte} {s t : State} (h : busRead (s.sp + 1) s = .ok v t) :
    pull8 s = .ok v { t with sp := s.sp + 1 } := by
  have := busRead_of_registers (u := { s with sp := s.sp + 1 }) h rfl
  rw [pull8, this, (busRead_ok h).1]
  rfl

/-- Everything a push that completes does: the byte at `SP`, `SP` down by one, nothing else. -/
theorem push8_ok {v : Byte} {s t : State} (h : busWrite s.sp v s = .ok () t) :
    push8 v s = .ok () { t with sp := s.sp - 1 } := by
  rw [push8, h, Bus.andThen_ok, (busWrite_ok h).1.1]

/-! ### Words and their bytes, as numbers -/

theorem wordOf_toNat (hi lo : Byte) : (wordOf hi lo).toNat = hi.toNat * 256 + lo.toNat := by
  have h : (wordOf hi lo).toNat = hi.toNat <<< 8 ||| lo.toNat := BitVec.toNat_append hi lo
  rw [h, ← Nat.shiftLeft_add_eq_or_of_lt lo.isLt, Nat.shiftLeft_eq]

theorem hiByte_toNat (w : Word) : (hiByte w).toNat = w.toNat / 256 := by
  have := w.isLt
  simp only [hiByte, BitVec.extractLsb'_toNat, Nat.shiftRight_eq_div_pow]
  omega

theorem loByte_toNat (w : Word) : (loByte w).toNat = w.toNat % 256 := by
  simp [loByte, BitVec.extractLsb'_toNat]

theorem wordOf_hi_lo (w : Word) : wordOf (hiByte w) (loByte w) = w := by
  apply BitVec.eq_of_toNat_eq
  rw [wordOf_toNat, hiByte_toNat, loByte_toNat]
  omega

@[simp] theorem hiByte_wordOf (hi lo : Byte) : hiByte (wordOf hi lo) = hi := by
  apply BitVec.eq_of_toNat_eq
  have := lo.isLt
  rw [hiByte_toNat, wordOf_toNat]
  omega

@[simp] theorem loByte_wordOf (hi lo : Byte) : loByte (wordOf hi lo) = lo := by
  apply BitVec.eq_of_toNat_eq
  have := lo.isLt
  rw [loByte_toNat, wordOf_toNat]
  omega

end Sys2Proof.Machine
end

