-- ==== Sys2Proof/Laws/Boundary.lean ====
section
/-!
SUPPORT. What happens at a boundary, said once: the environment's input changes only the environment's
side and never puts off a reset that is due; which line a list of requests gives; what an unassigned
opcode comes to.
-/

namespace Sys2Proof.Machine

/-! ### The environment's input -/

/-- Beside a reset that is due, a new event leaves a reset that is due. -/
theorem nextReset_due (source : ResetSource) (new : ResetEvent) :
    ∃ again, nextReset (some ⟨source, 0⟩) new = some ⟨again, 0⟩ := by
  obtain ⟨r, n⟩ := new
  cases source <;> first
    | exact ⟨_, rfl⟩
    | rcases Nat.eq_zero_or_pos n with rfl | h
      · exact ⟨_, rfl⟩
      · exact ⟨_, if_neg (Nat.ne_of_gt h)⟩

/-- A loss of power that is due stays due. -/
theorem nextReset_powerOn (new : ResetEvent) :
    nextReset (some ⟨.powerOn, 0⟩) new = some ⟨.powerOn, 0⟩ := rfl

/-- A new event stands for itself when no reset is under way. -/
theorem nextReset_none (new : ResetEvent) : nextReset none new = some new := rfl

/-- Everything the environment's input can change. -/
theorem takeInput_frame (s : State) :
    takeInput s = { s with
      inputs := (takeInput s).inputs, ireq := (takeInput s).ireq, irqPin := (takeInput s).irqPin,
      modePin := (takeInput s).modePin, resetIn := (takeInput s).resetIn } := by
  unfold takeInput
  split <;> rfl

/-- No input puts off a reset that is due (60_exceptions.md R503). -/
theorem takeInput_due {s : State} (h : ResetDue s) : ResetDue (takeInput s) := by
  obtain ⟨source, h⟩ := h
  unfold takeInput
  split
  · exact ⟨source, h⟩
  · rename_i e _ _
    show ∃ again, resetAfterInput s e = some ⟨again, 0⟩
    unfold resetAfterInput
    split
    · exact ⟨source, h⟩
    · split
      · rw [h]; exact nextReset_due source _
      · exact ⟨source, h⟩

/-! ### Requests -/

/-- The least line of a list is in it, and no line of the list is less. -/
theorem leastLine_eq_some {l : List Nat} : ∀ {n : Nat}, leastLine l = some n →
    n ∈ l ∧ ∀ m ∈ l, n ≤ m := by
  induction l with
  | nil => intro n h; cases h
  | cons k l ih =>
    intro n h
    cases hl : leastLine l with
    | none =>
      cases l with
      | nil =>
        simp only [leastLine] at h
        cases h
        simp
      | cons j l =>
        simp only [leastLine] at hl
        split at hl <;> cases hl
    | some m =>
      obtain ⟨hm, hmin⟩ := ih hl
      simp only [leastLine, hl, Option.some.injEq] at h
      subst h
      refine ⟨?_, fun j hj => ?_⟩
      · split
        · exact List.mem_cons_self
        · exact List.mem_cons_of_mem _ hm
      · rcases List.mem_cons.mp hj with rfl | hj
        · split <;> omega
        · have := hmin j hj
          split <;> omega

/-- Only an empty list has no least line. -/
theorem leastLine_eq_none {l : List Nat} (h : leastLine l = none) : l = [] := by
  cases l with
  | nil => rfl
  | cons k l =>
    simp only [leastLine] at h
    split at h <;> cases h

/-- The line of a list that is not above any other is the one arbitration takes. -/
theorem leastLine_of_least {l : List Nat} {n : Nat} (h : n ∈ l) (hmin : ∀ m ∈ l, n ≤ m) :
    leastLine l = some n := by
  cases hl : leastLine l with
  | none => rw [leastLine_eq_none hl] at h; cases h
  | some k =>
    obtain ⟨hk, hkmin⟩ := leastLine_eq_some hl
    have := hkmin n h
    have := hmin k hk
    congr 1
    omega

/-! ### Unassigned opcodes -/

/-- Everything an unassigned opcode can come to: the reset that is due, the illegal-opcode reset, or,
on a device that has no such reset and with none due, the refusal. -/
theorem illegalOpcode_cases (bytes : List Byte) (s : State) :
    (∃ source, s.resetIn = some ⟨source, 0⟩ ∧ illegalOpcode bytes s = .next (resetCpu source s)) ∨
    (.illegalOpcode ∈ s.device.resetSources ∧
      illegalOpcode bytes s = .next (resetCpu .illegalOpcode s)) ∨
    (¬ ResetDue s ∧ .illegalOpcode ∉ s.device.resetSources ∧
      illegalOpcode bytes s = .refused (.illegalOpcode bytes)) := by
  unfold illegalOpcode
  split
  · rename_i source h
    exact .inl ⟨source, h, rfl⟩
  · rename_i h
    by_cases hd : ResetSource.illegalOpcode ∈ s.device.resetSources
    · exact .inr (.inl ⟨hd, by simp [hd]⟩)
    · exact .inr (.inr ⟨fun ⟨source, hs⟩ => h source hs, hd, by simp [hd]⟩)

end Sys2Proof.Machine
end

