-- ==== Sys2Proof/Laws/Exceptions.lean ====
section
/-!
SUPPORT. What the stacked sequences do when their accesses complete, said once: pushing and pulling a
word, taking an exception and returning from one, each in terms of the plain reads and writes it
is made of.
-/

namespace Sys2Proof.Machine

theorem sp_down (w : Word) : w - 1 - 1 = w - 2 ∧ w - 2 - 1 = w - 3 ∧ w - 3 - 1 = w - 4 ∧
    w - 4 - 1 = w - 5 := by
  refine ⟨?_, ?_, ?_, ?_⟩ <;> bv_omega

theorem sp_up (w : Word) : w + 1 + 1 = w + 2 ∧ w + 2 + 1 = w + 3 ∧ w + 3 + 1 = w + 4 ∧
    w + 4 + 1 = w + 5 := by
  refine ⟨?_, ?_, ?_, ?_⟩ <;> bv_omega

/-- A push made with `SP` (or another register) already changed. -/
theorem push8_of_registers {v : Byte} {s t u : State} (h : busWrite u.sp v s = .ok () t)
    (hu : u = s.withRegisters u) :
    push8 v u = .ok () ((t.withRegisters u).withRegisters { u with sp := u.sp - 1 }) := by
  have w := busWrite_of_registers h hu
  rw [push8_ok w]
  rfl

/-- A pull made with `SP` (or another register) already changed. -/
theorem pull8_of_registers {v : Byte} {s t u : State} (h : busRead (u.sp + 1) s = .ok v t)
    (hu : u = s.withRegisters u) :
    pull8 u = .ok v ((t.withRegisters u).withRegisters { u with sp := u.sp + 1 }) := by
  have w := busRead_of_registers h hu
  rw [pull8_ok w]
  rfl

/-- Everything the push of a word does when its two writes complete. -/
theorem pushWord_ok {w : Word} {s s1 s2 : State}
    (h1 : busWrite s.sp (loByte w) s = .ok () s1)
    (h2 : busWrite (s.sp - 1) (hiByte w) s1 = .ok () s2) :
    pushWord w s = .ok () { s2 with sp := s.sp - 2 } := by
  have p2 := push8_of_registers (u := { s1 with sp := s.sp - 1 }) h2 rfl
  unfold pushWord
  rw [push8_ok h1, Bus.andThen_ok, p2, ← (sp_down s.sp).1, (busWrite_ok h2).1.1]
  rfl

/-- Everything the pull of a word does when its two reads complete. -/
theorem pullWord_ok {hi lo : Byte} {s s1 s2 : State}
    (h1 : busRead (s.sp + 1) s = .ok hi s1) (h2 : busRead (s.sp + 2) s1 = .ok lo s2) :
    pullWord s = .ok (wordOf hi lo) { s2 with sp := s.sp + 2 } := by
  rw [← (sp_up s.sp).1] at h2 ⊢
  have p2 := pull8_of_registers (u := { s1 with sp := s.sp + 1 }) h2 rfl
  unfold pullWord
  rw [pull8_ok h1, Bus.andThen_ok, p2, Bus.andThen_ok, (busRead_ok h2).1]
  rfl

/-- Everything taking an exception does when its five writes and two reads complete. -/
theorem takeException_ok {vector v : Word} {s s1 s2 s3 s4 s5 s6 s7 : State} {hi lo : Byte}
    (hv : v = vectorAddress s.monitorMode vector)
    (h1 : busWrite s.sp (loByte s.pc) s = .ok () s1)
    (h2 : busWrite (s.sp - 1) (hiByte s.pc) s1 = .ok () s2)
    (h3 : busWrite (s.sp - 2) s.x s2 = .ok () s3)
    (h4 : busWrite (s.sp - 3) s.a s3 = .ok () s4)
    (h5 : busWrite (s.sp - 4) (ccrByte s.ccr) s4 = .ok () s5)
    (h6 : busRead v s5 = .ok hi s6) (h7 : busRead (v + 1) s6 = .ok lo s7) :
    takeException vector s = .ok ()
      { s7 with
        sp := s.sp - 5, ccr := { s.ccr with i := true }, iWindow := none, pc := wordOf hi lo } := by
  have e1 := (busWrite_ok h1).1.1
  have e2 := (busWrite_ok h2).1.1
  have e3 := (busWrite_ok h3).1.1
  have e4 := (busWrite_ok h4).1.1
  have e5 := (busWrite_ok h5).1.1
  have e6 := (busRead_ok h6).1
  have e7 := (busRead_ok h7).1
  obtain ⟨-, d3, d4, d5⟩ := sp_down s.sp
  have hx : s2.x = s.x := by rw [e2, e1]
  have ha : s3.a = s.a := by rw [e3, e2, e1]
  have hc : s4.ccr = s.ccr := by rw [e4, e3, e2, e1]
  have hc5 : s5.ccr = s.ccr := by rw [e5]; exact hc
  have hm5 : s5.monitorMode = s.monitorMode := by rw [e5, e4, e3, e2, e1]
  rw [← hx] at h3
  rw [← ha] at h4
  rw [← hc] at h5
  have p3 : push8 s2.x { s2 with sp := s.sp - 2 } = .ok () { s3 with sp := s.sp - 3 } := by
    rw [push8_of_registers (u := { s2 with sp := s.sp - 2 }) h3 rfl, ← d3, e3]; rfl
  have p4 : push8 s3.a { s3 with sp := s.sp - 3 } = .ok () { s4 with sp := s.sp - 4 } := by
    rw [push8_of_registers (u := { s3 with sp := s.sp - 3 }) h4 rfl, ← d4, e4]; rfl
  have p5 : push8 (ccrByte s4.ccr) { s4 with sp := s.sp - 4 } =
      .ok () { s5 with sp := s.sp - 5 } := by
    rw [push8_of_registers (u := { s4 with sp := s.sp - 4 }) h5 rfl, ← d5, e5]; rfl
  have w6 := busRead_of_registers
    (u := { s5 with sp := s.sp - 5, ccr := { s.ccr with i := true }, iWindow := none }) h6 rfl
  have w7 := busRead_of_registers
    (u := s6.withRegisters
      { s5 with sp := s.sp - 5, ccr := { s.ccr with i := true }, iWindow := none }) h7 rfl
  have hv5 : v = vectorAddress s5.monitorMode vector := by rw [hm5]; exact hv
  dsimp only [State.withRegisters] at w6 w7
  unfold takeException
  rw [pushWord_ok h1 h2, Bus.andThen_ok]
  dsimp only
  rw [p3, Bus.andThen_ok]
  dsimp only
  rw [p4, Bus.andThen_ok]
  dsimp only
  rw [p5, Bus.andThen_ok]
  dsimp only
  rw [hc5]
  unfold readVector busRead16
  dsimp only
  rw [← hv5, w6, Bus.andThen_ok, w7, Bus.andThen_ok, Bus.andThen_ok, e7, e6]

/-- Everything returning from an exception does when its five reads complete. -/
theorem returnFromException_ok {s s1 s2 s3 s4 s5 : State} {c a x hi lo : Byte}
    (h1 : busRead (s.sp + 1) s = .ok c s1) (h2 : busRead (s.sp + 2) s1 = .ok a s2)
    (h3 : busRead (s.sp + 3) s2 = .ok x s3) (h4 : busRead (s.sp + 4) s3 = .ok hi s4)
    (h5 : busRead (s.sp + 5) s4 = .ok lo s5) :
    returnFromException s = .ok ()
      { s5 with a := a, x := x, sp := s.sp + 5, pc := wordOf hi lo, ccr := loadCcr c } := by
  obtain ⟨d2, d3, d4, d5⟩ := sp_up s.sp
  have e1 := (busRead_ok h1).1
  have e2 := (busRead_ok h2).1
  have e3 := (busRead_ok h3).1
  have e4 := (busRead_ok h4).1
  have e5 := (busRead_ok h5).1
  have p2 : pull8 { s1 with sp := s.sp + 1, ccr := loadCcr c } =
      .ok a { s2 with sp := s.sp + 2, ccr := loadCcr c } := by
    rw [← d2] at h2
    rw [pull8_of_registers (u := { s1 with sp := s.sp + 1, ccr := loadCcr c }) h2 rfl, ← d2, e2]
    rfl
  have p3 : pull8 { s2 with sp := s.sp + 2, ccr := loadCcr c, a := a } =
      .ok x { s3 with sp := s.sp + 3, ccr := loadCcr c, a := a } := by
    rw [← d3] at h3
    rw [pull8_of_registers (u := { s2 with sp := s.sp + 2, ccr := loadCcr c, a := a }) h3 rfl,
      ← d3, e3]
    rfl
  have p4 : pull8 { s3 with sp := s.sp + 3, ccr := loadCcr c, a := a, x := x } =
      .ok hi { s4 with sp := s.sp + 4, ccr := loadCcr c, a := a, x := x } := by
    rw [← d4] at h4
    rw [pull8_of_registers (u := { s3 with sp := s.sp + 3, ccr := loadCcr c, a := a, x := x })
      h4 rfl, ← d4, e4]
    rfl
  have p5 : pull8 { s4 with sp := s.sp + 4, ccr := loadCcr c, a := a, x := x } =
      .ok lo { s5 with sp := s.sp + 5, ccr := loadCcr c, a := a, x := x } := by
    rw [← d5] at h5
    rw [pull8_of_registers (u := { s4 with sp := s.sp + 4, ccr := loadCcr c, a := a, x := x })
      h5 rfl, ← d5, e5]
    rfl
  unfold returnFromException pullWord
  rw [pull8_ok h1, Bus.andThen_ok]
  dsimp only
  rw [p2, Bus.andThen_ok]
  dsimp only
  rw [p3, Bus.andThen_ok]
  dsimp only
  rw [p4, Bus.andThen_ok, p5, Bus.andThen_ok]
  rfl

end Sys2Proof.Machine
end

