-- ==== Sys2Proof/Laws/Exec.lean ====
section
/-!
SUPPORT. What executing any instruction can do, said once: it changes the CPU's registers and the count
of free values, and it makes bus accesses; a reset may cut it short. So a property that those keep
(`Kept`) holds where the instruction completes, and another where a reset cuts it short. Every
invariant of the instruction set is one use of `exec_ends`.
-/

namespace Sys2Proof.Machine

/-- Where a sequence of accesses leads: to a state with `P` if it completes, to one with `Q` if a reset
cuts it short. -/
def Bus.Leads {α : Type} (P Q : State → Prop) : Bus α → Prop
  | .ok _ s => P s
  | .cut _ s => Q s

theorem Bus.leads_andThen {α β : Type} {P Q : State → Prop} {b : Bus α} {k : α → State → Bus β}
    (h : b.Leads P Q) (hk : ∀ v s, P s → (k v s).Leads P Q) : (b.andThen k).Leads P Q := by
  cases b with
  | ok v s => exact hk v s h
  | cut r s => exact h

/-- A property `P` that everything an instruction is made of keeps: a change of the CPU's registers and
of the count of free values, and a bus read or write that completes; one that is cut short leaves `Q`. -/
structure Kept (P Q : State → Prop) : Prop where
  registers : ∀ s t : State, t = { s.withRegisters t with draws := t.draws } → P s → P t
  read : ∀ (a : Word) (s : State), P s → (busRead a s).Leads P Q
  write : ∀ (a : Word) (v : Byte) (s : State), P s → (busWrite a v s).Leads P Q

/-- A result is a next state with `P`, or the reset of a state with `Q`. -/
def Ends (P Q : State → Prop) (r : Result) : Prop :=
  (∃ t, P t ∧ r = .next t) ∨ ∃ source t, Q t ∧ r = .next (resetCpu source t)

/-- A property that accesses keep, completed or cut short, is kept by all of an instruction. -/
theorem Kept.of_holds {P : State → Prop}
    (hreg : ∀ s t : State, t = { s.withRegisters t with draws := t.draws } → P s → P t)
    (hread : ∀ (a : Word) (s : State), P s → (busRead a s).Holds P)
    (hwrite : ∀ (a : Word) (v : Byte) (s : State), P s → (busWrite a v s).Holds P) : Kept P P where
  registers := hreg
  read a s hs := by have h := hread a s hs; cases hb : busRead a s <;> rw [hb] at h <;> exact h
  write a v s hs := by have h := hwrite a v s hs; cases hb : busWrite a v s <;> rw [hb] at h <;> exact h

/-- With no reset under way and no illegal address nothing cuts an instruction short: of a property
that accesses keep, the case of a reset need not be considered. -/
theorem Kept.of_uncut {P : State → Prop} (hu : ∀ s, P s → Uncut s)
    (hreg : ∀ s t : State, t = { s.withRegisters t with draws := t.draws } → P s → P t)
    (hread : ∀ (a : Word) (s : State), P s → P (readCell a s).2)
    (hwrite : ∀ (a : Word) (v : Byte) (s : State), P s → P (writeCell a v s)) :
    Kept P (fun _ => False) where
  registers := hreg
  read a s hs := by
    rw [busRead_of_accessible ⟨(hu s hs).1, by simp [isIllegal, (hu s hs).2]⟩]
    exact hread a s hs
  write a v s hs := by
    rw [busWrite_of_accessible ⟨(hu s hs).1, by simp [isIllegal, (hu s hs).2]⟩]
    exact hwrite a v s hs

namespace Kept

variable {P Q : State → Prop} {s : State}

/-! ### Sequences of accesses -/

/-- A sequence of accesses and then a change of registers. -/
theorem thenRegisters {α : Type} {b : Bus α} {f : α → State → State} (h : Kept P Q) (hb : b.Leads P Q)
    (hf : ∀ v t, f v t = { t.withRegisters (f v t) with draws := (f v t).draws }) :
    (b.andThen fun v t => .ok () (f v t)).Leads P Q :=
  Bus.leads_andThen hb fun v t ht => h.registers t (f v t) (hf v t) ht

theorem finish (_ : Kept P Q) {b : Bus Unit} (hb : b.Leads P Q) : Ends P Q (finish b) := by
  cases b with
  | ok v t => exact .inl ⟨t, hb, rfl⟩
  | cut r t => exact .inr ⟨r, t, hb, rfl⟩

theorem next (_ : Kept P Q) (hs : P s) : Ends P Q (.next s) := .inl ⟨s, hs, rfl⟩

theorem busRead16 (h : Kept P Q) (a : Word) (hs : P s) : (busRead16 a s).Leads P Q :=
  Bus.leads_andThen (h.read _ _ hs) fun _ _ ht =>
    Bus.leads_andThen (h.read _ _ ht) fun _ _ hu => hu

theorem busWrite16 (h : Kept P Q) (a v : Word) (hs : P s) : (busWrite16 a v s).Leads P Q :=
  Bus.leads_andThen (h.write _ _ _ hs) fun _ _ ht => h.write _ _ _ ht

theorem push8 (h : Kept P Q) (v : Byte) (hs : P s) : (push8 v s).Leads P Q :=
  h.thenRegisters (h.write _ _ _ hs) fun _ _ => rfl

theorem pull8 (h : Kept P Q) (hs : P s) : (pull8 s).Leads P Q :=
  h.read _ _ (h.registers s _ rfl hs)

theorem pushWord (h : Kept P Q) (w : Word) (hs : P s) : (pushWord w s).Leads P Q :=
  Bus.leads_andThen (h.push8 _ hs) fun _ _ ht => h.push8 _ ht

theorem pullWord (h : Kept P Q) (hs : P s) : (pullWord s).Leads P Q :=
  Bus.leads_andThen (h.pull8 hs) fun _ _ ht => Bus.leads_andThen (h.pull8 ht) fun _ _ hu => hu

theorem takeException (h : Kept P Q) (vector : Word) (hs : P s) : (takeException vector s).Leads P Q :=
  Bus.leads_andThen (h.pushWord _ hs) fun _ _ h1 =>
  Bus.leads_andThen (h.push8 _ h1) fun _ _ h2 =>
  Bus.leads_andThen (h.push8 _ h2) fun _ _ h3 =>
  Bus.leads_andThen (h.push8 _ h3) fun _ t h4 =>
  h.thenRegisters (h.busRead16 _ (h.registers t _ rfl h4)) fun _ _ => rfl

theorem returnFromException (h : Kept P Q) (hs : P s) : (returnFromException s).Leads P Q :=
  Bus.leads_andThen (h.pull8 hs) fun _ t1 h1 =>
  Bus.leads_andThen (h.pull8 (h.registers t1 _ rfl h1)) fun _ t2 h2 =>
  Bus.leads_andThen (h.pull8 (h.registers t2 _ rfl h2)) fun _ t3 h3 =>
  h.thenRegisters (h.pullWord (h.registers t3 _ rfl h3)) fun _ _ => rfl

theorem readOperand (h : Kept P Q) (op : Operand) (hs : P s) : (readOperand op s).Leads P Q := by
  cases op with
  | imm ii => exact hs
  | mem m => exact h.read _ _ hs

theorem moveTo (h : Kept P Q) (dst : Word) (v : Byte) (hs : P s) : (moveTo dst v s).Leads P Q :=
  h.thenRegisters (h.write _ _ _ hs) fun _ _ => rfl

/-! ### The shapes of instructions -/

theorem accumulate (h : Kept P Q) (f : Byte → Byte → Ccr → Byte × Ccr) (op : Operand) (hs : P s) :
    Ends P Q (accumulate f op s) :=
  h.finish (h.thenRegisters (h.readOperand op hs) fun _ _ => rfl)

theorem compareWith (h : Kept P Q) (r : State → Byte) (f : Byte → Byte → Ccr → Ccr) (op : Operand)
    (hs : P s) : Ends P Q (compareWith r f op s) :=
  h.finish (h.thenRegisters (h.readOperand op hs) fun _ _ => rfl)

theorem loadA (h : Kept P Q) (op : Operand) (hs : P s) : Ends P Q (loadA op s) :=
  h.finish (h.thenRegisters (h.readOperand op hs) fun _ _ => rfl)

theorem loadX (h : Kept P Q) (op : Operand) (hs : P s) : Ends P Q (loadX op s) :=
  h.finish (h.thenRegisters (h.readOperand op hs) fun _ _ => rfl)

theorem storeByte (h : Kept P Q) (m : Addr) (v : Byte) (hs : P s) : Ends P Q (storeByte m v s) :=
  h.finish (h.thenRegisters (h.write _ _ _ hs) fun _ _ => rfl)

theorem clearMemory (h : Kept P Q) (m : Addr) (hs : P s) : Ends P Q (clearMemory m s) :=
  h.finish (h.thenRegisters (h.write _ _ _ hs) fun _ _ => rfl)

theorem testMemory (h : Kept P Q) (m : Addr) (hs : P s) : Ends P Q (testMemory m s) :=
  h.finish (h.thenRegisters (h.read _ _ hs) fun _ _ => rfl)

theorem modifyMemory (h : Kept P Q) (f : Byte → Ccr → Byte × Ccr) (m : Addr) (hs : P s) :
    Ends P Q (modifyMemory f m s) :=
  h.finish (Bus.leads_andThen (h.read _ _ hs) fun _ _ ht =>
    h.thenRegisters (h.write _ _ _ ht) fun _ _ => rfl)

theorem modifyA (h : Kept P Q) (f : Byte → Ccr → Byte × Ccr) (hs : P s) : Ends P Q (modifyA f s) :=
  h.next (h.registers s _ rfl hs)

theorem modifyX (h : Kept P Q) (f : Byte → Ccr → Byte × Ccr) (hs : P s) : Ends P Q (modifyX f s) :=
  h.next (h.registers s _ rfl hs)

theorem setBit (h : Kept P Q) (n : Nat) (dd : Byte) (hs : P s) : Ends P Q (setBit n dd s) :=
  h.modifyMemory _ _ hs

theorem clearBit (h : Kept P Q) (n : Nat) (dd : Byte) (hs : P s) : Ends P Q (clearBit n dd s) :=
  h.modifyMemory _ _ hs

theorem branchIf (h : Kept P Q) (condition : Bool) (rr : Byte) (hs : P s) :
    P (branchIf condition rr s) := by
  cases condition with
  | true => exact h.registers s _ rfl hs
  | false => exact hs

/-- A sequence of accesses, a change of registers and a branch. -/
theorem thenBranch (h : Kept P Q) {b : Bus Byte} {condition : Byte → State → Bool} {rr : Byte}
    {f : Byte → State → State} (hb : b.Leads P Q)
    (hf : ∀ v t, f v t = { t.withRegisters (f v t) with draws := (f v t).draws }) :
    Ends P Q (Machine.finish (b.andThen fun v t =>
      .ok () (Machine.branchIf (condition v t) rr (f v t)))) :=
  h.finish (Bus.leads_andThen hb fun v t ht => h.branchIf _ _ (h.registers t _ (hf v t) ht))

theorem bitBranch (h : Kept P Q) (n : Nat) (w : Bool) (dd rr : Byte) (hs : P s) :
    Ends P Q (bitBranch n w dd rr s) :=
  h.thenBranch (h.read _ _ hs) fun _ _ => rfl

theorem compareBranch (h : Kept P Q) (m : Addr) (rr : Byte) (hs : P s) :
    Ends P Q (compareBranch m rr s) :=
  h.thenBranch (f := fun _ t => t) (h.read _ _ hs) fun _ _ => rfl

theorem compareBranchInc (h : Kept P Q) (m : Addr) (rr : Byte) (hs : P s) :
    Ends P Q (compareBranchInc m rr s) :=
  h.finish (Bus.leads_andThen (h.read _ _ hs) fun _ t ht =>
    h.branchIf _ _ (h.registers t _ rfl ht))

theorem decrementBranch (h : Kept P Q) (m : Addr) (rr : Byte) (hs : P s) :
    Ends P Q (decrementBranch m rr s) :=
  h.finish (Bus.leads_andThen (h.read _ _ hs) fun _ _ ht =>
    Bus.leads_andThen (h.write _ _ _ ht) fun _ _ hu => h.branchIf _ _ hu)

theorem callSubroutine (h : Kept P Q) (destination : Word) (hs : P s) :
    Ends P Q (callSubroutine destination s) :=
  h.finish (h.thenRegisters (h.pushWord _ hs) fun _ _ => rfl)

theorem openWindow (h : Kept P Q) (old : Bool) (hs : P s) : P (openWindow old s) := by
  unfold Machine.openWindow
  split
  · exact hs
  · exact h.registers s _ rfl hs

theorem div (h : Kept P Q) (hs : P s) : Ends P Q (execDiv s) := by
  unfold execDiv
  dsimp only
  split
  · exact h.next (h.registers s _ rfl hs)
  · exact h.next (h.registers s _ rfl hs)

theorem daa (h : Kept P Q) (hs : P s) : Ends P Q (execDaa s) := by
  unfold execDaa
  split
  · exact h.next (h.registers s _ rfl hs)
  · exact h.next (h.registers s _ rfl hs)

end Kept

/-- Whatever the instruction, a property that register changes and accesses keep holds where it
completes, and where a reset cuts it short that reset is of a state with `Q`. -/
theorem exec_ends {P Q : State → Prop} (h : Kept P Q) (i : Instr) {s : State} (hs : P s) :
    Ends P Q (exec i s) := by
  unfold exec
  cases i
  case addImm | addDir | addExt | addIx2 | addIx1 | addSp2 | addSp1 | addIx | adcImm | adcDir |
      adcExt | adcIx2 | adcIx1 | adcSp2 | adcSp1 | adcIx | subImm | subDir | subExt | subIx2 |
      subIx1 | subSp2 | subSp1 | subIx | sbcImm | sbcDir | sbcExt | sbcIx2 | sbcIx1 | sbcSp2 |
      sbcSp1 | sbcIx | andImm | andDir | andExt | andIx2 | andIx1 | andSp2 | andSp1 | andIx | oraImm
      | oraDir | oraExt | oraIx2 | oraIx1 | oraSp2 | oraSp1 | oraIx | eorImm | eorDir | eorExt |
      eorIx2 | eorIx1 | eorSp2 | eorSp1 | eorIx =>
    exact h.accumulate _ _ hs
  case cmpImm | cmpDir | cmpExt | cmpIx2 | cmpIx1 | cmpSp2 | cmpSp1 | cmpIx | cpxImm | cpxDir |
      cpxExt | cpxIx2 | cpxIx1 | cpxSp2 | cpxSp1 | cpxIx | bitImm | bitDir | bitExt | bitIx2 |
      bitIx1 | bitSp2 | bitSp1 | bitIx =>
    exact h.compareWith _ _ _ hs
  case ldaImm | ldaDir | ldaExt | ldaIx2 | ldaIx1 | ldaSp2 | ldaSp1 | ldaIx =>
    exact h.loadA _ hs
  case ldxImm | ldxDir | ldxExt | ldxIx2 | ldxIx1 | ldxSp2 | ldxSp1 | ldxIx =>
    exact h.loadX _ hs
  case staDir | staExt | staIx2 | staIx1 | staSp2 | staSp1 | staIx | stxDir | stxExt | stxIx2 |
      stxIx1 | stxSp2 | stxSp1 | stxIx =>
    exact h.storeByte _ _ hs
  case negDir | negIx1 | negSp1 | negIx | comDir | comIx1 | comSp1 | comIx | lsrDir | lsrIx1 | lsrSp1
      | lsrIx | rorDir | rorIx1 | rorSp1 | rorIx | asrDir | asrIx1 | asrSp1 | asrIx | lslDir |
      lslIx1 | lslSp1 | lslIx | rolDir | rolIx1 | rolSp1 | rolIx | decDir | decIx1 | decSp1 | decIx
      | incDir | incIx1 | incSp1 | incIx =>
    exact h.modifyMemory _ _ hs
  case nega | coma | lsra | rora | asra | lsla | rola | deca | inca =>
    exact h.modifyA _ hs
  case negx | comx | lsrx | rorx | asrx | lslx | rolx | decx | incx =>
    exact h.modifyX _ hs
  case tstDir | tstIx1 | tstSp1 | tstIx =>
    exact h.testMemory _ hs
  case clrDir | clrIx1 | clrSp1 | clrIx =>
    exact h.clearMemory _ hs
  case bset0 | bset1 | bset2 | bset3 | bset4 | bset5 | bset6 | bset7 =>
    exact h.setBit _ _ hs
  case bclr0 | bclr1 | bclr2 | bclr3 | bclr4 | bclr5 | bclr6 | bclr7 =>
    exact h.clearBit _ _ hs
  case bra | brn | bhi | bls | bcc | bcs | bne | beq | bhcc | bhcs | bpl | bmi | bmc | bms | bil |
      bih | bge | blt | bgt | ble | cbeqa | cbeqx =>
    exact h.next (h.branchIf _ _ hs)
  case brset0 | brset1 | brset2 | brset3 | brset4 | brset5 | brset6 | brset7 | brclr0 | brclr1 |
      brclr2 | brclr3 | brclr4 | brclr5 | brclr6 | brclr7 =>
    exact h.bitBranch _ _ _ _ hs
  case cbeqDir | cbeqSp1 =>
    exact h.compareBranch _ _ hs
  case cbeqIx1Inc | cbeqIxInc =>
    exact h.compareBranchInc _ _ hs
  case dbnzDir | dbnzIx1 | dbnzIx | dbnzSp1 =>
    exact h.decrementBranch _ _ hs
  case dbnza | dbnzx =>
    exact h.next (h.branchIf _ _ (h.registers s _ rfl hs))
  case jsrDir | jsrExt | jsrIx2 | jsrIx1 | jsrIx | bsr =>
    exact h.callSubroutine _ hs
  case psha | pshh | pshx =>
    exact h.finish (h.push8 _ hs)
  case pula | pulh | pulx =>
    exact h.finish (h.thenRegisters (h.pull8 hs) fun _ _ => rfl)
  case rts =>
    exact h.finish (h.thenRegisters (h.pullWord hs) fun _ _ => rfl)
  case swi =>
    exact h.finish (h.takeException _ hs)
  case rti =>
    exact h.finish (h.returnFromException hs)
  case ldhxDir | cphxDir =>
    exact h.finish (h.thenRegisters (h.busRead16 _ hs) fun _ _ => rfl)
  case sthx =>
    exact h.finish (h.thenRegisters (h.busWrite16 _ _ hs) fun _ _ => rfl)
  case movDirDir =>
    exact h.finish (Bus.leads_andThen (h.read _ _ hs) fun _ _ ht => h.moveTo _ _ ht)
  case movImmDir =>
    exact h.finish (h.moveTo _ _ hs)
  case movDirIxInc | movIxIncDir =>
    exact h.finish (Bus.leads_andThen (h.read _ _ hs) fun _ _ ht =>
      h.thenRegisters (h.moveTo _ _ ht) fun _ _ => rfl)
  case div =>
    exact h.div hs
  case daa =>
    exact h.daa hs
  case tap | cli | sei =>
    exact h.next (h.openWindow _ (h.registers s _ rfl hs))
  case ldhxImm | cphxImm | ais | aix | jmpDir | jmpExt | jmpIx2 | jmpIx1 | mul | tsta | clra | tstx |
      clrx | nsa | tpa | clrh | stop | wait | txs | tsx | tax | clc | sec | rsp | nop | txa | jmpIx =>
    exact h.next (h.registers s _ rfl hs)

end Sys2Proof.Machine
end

