-- ==== Sys2Proof/Machine/Timing.lean ====
section
/-!
DEFINITION. The cycle count of each instruction, in bus clock cycles (30_encoding.md R123,
70_reset_and_hazards.md R600): timing information only. No step reads it: "The model has no clock and
no cycle counter" (R600). `JMP ,X` takes 3, by 90_conflicts.md C4.
-/

namespace Sys2Proof

/-- The cycles an instruction takes, taken or not where it branches (R600). -/
def Instr.cycles : Instr → Nat
  | .nega | .coma | .lsra | .rora | .asra | .lsla | .rola | .deca | .inca | .tsta | .clra |
    .negx | .comx | .lsrx | .rorx | .asrx | .lslx | .rolx | .decx | .incx | .tstx | .clrx |
    .tpa | .clrh | .stop | .wait | .tax | .clc | .sec | .rsp | .nop | .txa => 1
  | .subImm _ | .cmpImm _ | .sbcImm _ | .cpxImm _ | .andImm _ | .bitImm _ | .ldaImm _ | .ais _ |
    .eorImm _ | .adcImm _ | .oraImm _ | .addImm _ | .ldxImm _ | .aix _ | .jmpDir _ | .daa |
    .tstIx | .clrIx | .tap | .pula | .psha | .pulx | .pshx | .pulh | .pshh | .txs | .tsx | .cli |
    .sei | .subIx | .cmpIx | .sbcIx | .cpxIx | .andIx | .bitIx | .ldaIx | .staIx | .eorIx |
    .adcIx | .oraIx | .addIx | .ldxIx | .stxIx => 2
  | .bra _ | .brn _ | .bhi _ | .bls _ | .bcc _ | .bcs _ | .bne _ | .beq _ | .bhcc _ | .bhcs _ |
    .bpl _ | .bmi _ | .bmc _ | .bms _ | .bil _ | .bih _ | .tstDir _ | .clrDir _ | .ldhxImm _ |
    .dbnza _ | .dbnzx _ | .cphxImm _ | .tstIx1 _ | .clrIx1 _ | .bge _ | .blt _ | .bgt _ |
    .ble _ | .subDir _ | .cmpDir _ | .sbcDir _ | .cpxDir _ | .andDir _ | .bitDir _ | .ldaDir _ |
    .staDir _ | .eorDir _ | .adcDir _ | .oraDir _ | .addDir _ | .ldxDir _ | .stxDir _ |
    .jmpExt _ | .subIx1 _ | .cmpIx1 _ | .sbcIx1 _ | .cpxIx1 _ | .andIx1 _ | .bitIx1 _ |
    .ldaIx1 _ | .staIx1 _ | .eorIx1 _ | .adcIx1 _ | .oraIx1 _ | .addIx1 _ | .jmpIx1 _ |
    .ldxIx1 _ | .stxIx1 _ | .nsa | .negIx | .comIx | .lsrIx | .rorIx | .asrIx | .lslIx | .rolIx |
    .decIx | .incIx | .jmpIx => 3
  | .bset0 _ | .bclr0 _ | .bset1 _ | .bclr1 _ | .bset2 _ | .bclr2 _ | .bset3 _ | .bclr3 _ |
    .bset4 _ | .bclr4 _ | .bset5 _ | .bclr5 _ | .bset6 _ | .bclr6 _ | .bset7 _ | .bclr7 _ |
    .negDir _ | .comDir _ | .lsrDir _ | .sthx _ | .rorDir _ | .asrDir _ | .lslDir _ | .rolDir _ |
    .decDir _ | .incDir _ | .cbeqa _ _ | .cbeqx _ _ | .ldhxDir _ | .movDirIxInc _ | .negIx1 _ |
    .comIx1 _ | .lsrIx1 _ | .rorIx1 _ | .asrIx1 _ | .lslIx1 _ | .rolIx1 _ | .decIx1 _ |
    .incIx1 _ | .movImmDir _ _ | .cbeqIxInc _ | .cphxDir _ | .dbnzIx _ | .movIxIncDir _ |
    .bsr _ | .jsrDir _ | .subExt _ | .cmpExt _ | .sbcExt _ | .cpxExt _ | .andExt _ | .bitExt _ |
    .ldaExt _ | .staExt _ | .eorExt _ | .adcExt _ | .oraExt _ | .addExt _ | .ldxExt _ |
    .stxExt _ | .subIx2 _ | .cmpIx2 _ | .sbcIx2 _ | .cpxIx2 _ | .andIx2 _ | .bitIx2 _ |
    .ldaIx2 _ | .staIx2 _ | .eorIx2 _ | .adcIx2 _ | .oraIx2 _ | .addIx2 _ | .jmpIx2 _ |
    .ldxIx2 _ | .stxIx2 _ | .tstSp1 _ | .clrSp1 _ | .subSp1 _ | .cmpSp1 _ | .sbcSp1 _ |
    .cpxSp1 _ | .andSp1 _ | .bitSp1 _ | .ldaSp1 _ | .staSp1 _ | .eorSp1 _ | .adcSp1 _ |
    .oraSp1 _ | .addSp1 _ | .ldxSp1 _ | .stxSp1 _ | .rts | .jsrIx => 4
  | .brset0 _ _ | .brclr0 _ _ | .brset1 _ _ | .brclr1 _ _ | .brset2 _ _ | .brclr2 _ _ |
    .brset3 _ _ | .brclr3 _ _ | .brset4 _ _ | .brclr4 _ _ | .brset5 _ _ | .brclr5 _ _ |
    .brset6 _ _ | .brclr6 _ _ | .brset7 _ _ | .brclr7 _ _ | .cbeqDir _ _ | .dbnzDir _ _ |
    .movDirDir _ _ | .cbeqIx1Inc _ _ | .dbnzIx1 _ _ | .jsrExt _ | .jsrIx1 _ | .negSp1 _ |
    .comSp1 _ | .lsrSp1 _ | .rorSp1 _ | .asrSp1 _ | .lslSp1 _ | .rolSp1 _ | .decSp1 _ |
    .incSp1 _ | .subSp2 _ | .cmpSp2 _ | .sbcSp2 _ | .cpxSp2 _ | .andSp2 _ | .bitSp2 _ |
    .ldaSp2 _ | .staSp2 _ | .eorSp2 _ | .adcSp2 _ | .oraSp2 _ | .addSp2 _ | .ldxSp2 _ |
    .stxSp2 _ | .mul => 5
  | .jsrIx2 _ | .cbeqSp1 _ _ | .dbnzSp1 _ _ => 6
  | .div | .rti => 7
  | .swi => 9

end Sys2Proof
end

