-- ==== Sys2Proof/Tests/Slice0.lean ====
section
/-!
SUPPORT. Tests. Expected results are the spec's: the worked examples of 95_test_vectors.md (cited A<n>)
and the vectors of 96_derived_vectors.md (cited B<part> #<row>), whose default start state is
`State.reset`: `A = $00`, `H:X = $0000`, `SP = $00FF`, `PC = $0100`, `I = 1`, RAM everywhere. A theorem
`witness_<Name>` shows, for the obligation of that name, a state and operands that meet its
hypotheses, clause by clause.
-/

namespace Sys2Proof.Tests

open Sys2Proof.Machine

/-- The default start state with some bytes of memory. -/
def ram (m : Memory) : State := { State.reset with mem := m }

/-- A value of the next state. -/
def after {α : Type} (r : Result) (f : State → α) : Option α :=
  match r with
  | .next t => some (f t)
  | _ => none

/-- The flags `V H I N Z C`, as the spec's vectors print them. -/
def vhinzc (s : State) : List Bool := [s.ccr.v, s.ccr.h, s.ccr.i, s.ccr.n, s.ccr.z, s.ccr.c]

/-- The flags written as the spec's vectors print them. -/
def flags (n : Nat) : List Bool := (List.range 6).map fun k => n / 10 ^ (5 - k) % 10 == 1

/-- A CCR from its flags as the spec's vectors print them. -/
def ccrOf (n : Nat) : Ccr :=
  match flags n with
  | [v, h, i, n, z, c] => ⟨v, h, i, n, z, c⟩
  | _ => ⟨false, false, true, false, false, false⟩

/-- A device with I/O at `$0000` to `$003F`, RAM to `$3FFF`, ROM from `$8000`, nothing between, and no
illegal-opcode reset. -/
def board : Device where
  memMap :=
    [⟨⟨0x0000, 0x003F⟩, .io⟩, ⟨⟨0x0040, 0x3FFF⟩, .ram⟩, ⟨⟨0x8000, 0xFFFF⟩, .rom⟩]
  illegalAddr := [⟨0x4000, 0x5FFF⟩]
  nIreq := 3
  stopWake := [2]
  resetSources := [.externalPin, .powerOn, .illegalAddress]

/-! ### WellFormed: an ill-formed term for each check -/

theorem test_wf_board : board.wf = true ∧ Device.allRam.wf = true := by decide
theorem test_wf_range_backwards : AddrRange.wf ⟨2, 1⟩ = false := by decide
theorem test_wf_range_too_high : AddrRange.wf ⟨0, 0x10000⟩ = false := by decide
theorem test_wf_map : Device.wf { board with memMap := [⟨⟨2, 1⟩, .ram⟩] } = false := by decide
theorem test_wf_illegal_range : Device.wf { board with illegalAddr := [⟨2, 1⟩] } = false := by decide
theorem test_wf_too_many_lines : Device.wf { Device.allRam with nIreq := 127 } = false := by decide
theorem test_wf_wake_line : Device.wf { board with stopWake := [3] } = false := by decide
theorem test_wf_illegal_needs_source :
    Device.wf { board with resetSources := [.powerOn] } = false := by decide
theorem test_wf_input : StepInput.wf board ⟨some ⟨.powerOn, 0⟩, [2], true, false⟩ = true := by decide
theorem test_wf_input_line : StepInput.wf board ⟨none, [3], true, false⟩ = false := by decide
theorem test_wf_input_synchronous :
    StepInput.wf board ⟨some ⟨.illegalAddress, 0⟩, [], true, false⟩ = false := by decide
theorem test_wf_input_source :
    StepInput.wf board ⟨some ⟨.cop, 0⟩, [], true, false⟩ = false := by decide

/-! ### Decoding: one word for every instruction, written out from the Encoding lines of the rules -/

/-- Each word decodes to the instruction beside it, with nothing left over. -/
def Decodes (words : List (List Byte × Instr)) : Prop :=
  words.map (fun w => decode w.1) = words.map (fun w => .ok (w.2, []))

/-- `SUB`, `CMP`, `SBC`, `CPX`: R223 to R226. -/
theorem test_words_subtract : Decodes
    [([0xA0, 0x12], .subImm 0x12), ([0xB0, 0x12], .subDir 0x12),
     ([0xC0, 0x12, 0x34], .subExt 0x1234), ([0xD0, 0x12, 0x34], .subIx2 0x1234),
     ([0xE0, 0x12], .subIx1 0x12), ([0xF0], .subIx), ([0x9E, 0xD0, 0x12, 0x34], .subSp2 0x1234),
     ([0x9E, 0xE0, 0x12], .subSp1 0x12), ([0xA1, 0x12], .cmpImm 0x12),
     ([0xB1, 0x12], .cmpDir 0x12), ([0xC1, 0x12, 0x34], .cmpExt 0x1234),
     ([0xD1, 0x12, 0x34], .cmpIx2 0x1234), ([0xE1, 0x12], .cmpIx1 0x12), ([0xF1], .cmpIx),
     ([0x9E, 0xD1, 0x12, 0x34], .cmpSp2 0x1234), ([0x9E, 0xE1, 0x12], .cmpSp1 0x12),
     ([0xA2, 0x12], .sbcImm 0x12), ([0xB2, 0x12], .sbcDir 0x12),
     ([0xC2, 0x12, 0x34], .sbcExt 0x1234), ([0xD2, 0x12, 0x34], .sbcIx2 0x1234),
     ([0xE2, 0x12], .sbcIx1 0x12), ([0xF2], .sbcIx), ([0x9E, 0xD2, 0x12, 0x34], .sbcSp2 0x1234),
     ([0x9E, 0xE2, 0x12], .sbcSp1 0x12), ([0xA3, 0x12], .cpxImm 0x12),
     ([0xB3, 0x12], .cpxDir 0x12), ([0xC3, 0x12, 0x34], .cpxExt 0x1234),
     ([0xD3, 0x12, 0x34], .cpxIx2 0x1234), ([0xE3, 0x12], .cpxIx1 0x12), ([0xF3], .cpxIx),
     ([0x9E, 0xD3, 0x12, 0x34], .cpxSp2 0x1234), ([0x9E, 0xE3, 0x12], .cpxSp1 0x12)] := by rfl

/-- `AND`, `BIT`, `LDA`, `STA`: R281, R284, R181, R184. -/
theorem test_words_logic : Decodes
    [([0xA4, 0x12], .andImm 0x12), ([0xB4, 0x12], .andDir 0x12),
     ([0xC4, 0x12, 0x34], .andExt 0x1234), ([0xD4, 0x12, 0x34], .andIx2 0x1234),
     ([0xE4, 0x12], .andIx1 0x12), ([0xF4], .andIx), ([0x9E, 0xD4, 0x12, 0x34], .andSp2 0x1234),
     ([0x9E, 0xE4, 0x12], .andSp1 0x12), ([0xA5, 0x12], .bitImm 0x12),
     ([0xB5, 0x12], .bitDir 0x12), ([0xC5, 0x12, 0x34], .bitExt 0x1234),
     ([0xD5, 0x12, 0x34], .bitIx2 0x1234), ([0xE5, 0x12], .bitIx1 0x12), ([0xF5], .bitIx),
     ([0x9E, 0xD5, 0x12, 0x34], .bitSp2 0x1234), ([0x9E, 0xE5, 0x12], .bitSp1 0x12),
     ([0xA6, 0x12], .ldaImm 0x12), ([0xB6, 0x12], .ldaDir 0x12),
     ([0xC6, 0x12, 0x34], .ldaExt 0x1234), ([0xD6, 0x12, 0x34], .ldaIx2 0x1234),
     ([0xE6, 0x12], .ldaIx1 0x12), ([0xF6], .ldaIx), ([0x9E, 0xD6, 0x12, 0x34], .ldaSp2 0x1234),
     ([0x9E, 0xE6, 0x12], .ldaSp1 0x12), ([0xB7, 0x12], .staDir 0x12),
     ([0xC7, 0x12, 0x34], .staExt 0x1234), ([0xD7, 0x12, 0x34], .staIx2 0x1234),
     ([0xE7, 0x12], .staIx1 0x12), ([0xF7], .staIx), ([0x9E, 0xD7, 0x12, 0x34], .staSp2 0x1234),
     ([0x9E, 0xE7, 0x12], .staSp1 0x12)] := by rfl

/-- `EOR`, `ADC`, `ORA`, `ADD`: R283, R222, R282, R221. -/
theorem test_words_add : Decodes
    [([0xA8, 0x12], .eorImm 0x12), ([0xB8, 0x12], .eorDir 0x12),
     ([0xC8, 0x12, 0x34], .eorExt 0x1234), ([0xD8, 0x12, 0x34], .eorIx2 0x1234),
     ([0xE8, 0x12], .eorIx1 0x12), ([0xF8], .eorIx), ([0x9E, 0xD8, 0x12, 0x34], .eorSp2 0x1234),
     ([0x9E, 0xE8, 0x12], .eorSp1 0x12), ([0xA9, 0x12], .adcImm 0x12),
     ([0xB9, 0x12], .adcDir 0x12), ([0xC9, 0x12, 0x34], .adcExt 0x1234),
     ([0xD9, 0x12, 0x34], .adcIx2 0x1234), ([0xE9, 0x12], .adcIx1 0x12), ([0xF9], .adcIx),
     ([0x9E, 0xD9, 0x12, 0x34], .adcSp2 0x1234), ([0x9E, 0xE9, 0x12], .adcSp1 0x12),
     ([0xAA, 0x12], .oraImm 0x12), ([0xBA, 0x12], .oraDir 0x12),
     ([0xCA, 0x12, 0x34], .oraExt 0x1234), ([0xDA, 0x12, 0x34], .oraIx2 0x1234),
     ([0xEA, 0x12], .oraIx1 0x12), ([0xFA], .oraIx), ([0x9E, 0xDA, 0x12, 0x34], .oraSp2 0x1234),
     ([0x9E, 0xEA, 0x12], .oraSp1 0x12), ([0xAB, 0x12], .addImm 0x12),
     ([0xBB, 0x12], .addDir 0x12), ([0xCB, 0x12, 0x34], .addExt 0x1234),
     ([0xDB, 0x12, 0x34], .addIx2 0x1234), ([0xEB, 0x12], .addIx1 0x12), ([0xFB], .addIx),
     ([0x9E, 0xDB, 0x12, 0x34], .addSp2 0x1234), ([0x9E, 0xEB, 0x12], .addSp1 0x12)] := by rfl

/-- `JMP`, `JSR`, `LDX`, `STX`: R401, R402, R182, R185. -/
theorem test_words_index : Decodes
    [([0xBC, 0x12], .jmpDir 0x12), ([0xCC, 0x12, 0x34], .jmpExt 0x1234),
     ([0xDC, 0x12, 0x34], .jmpIx2 0x1234), ([0xEC, 0x12], .jmpIx1 0x12), ([0xFC], .jmpIx),
     ([0xBD, 0x12], .jsrDir 0x12), ([0xCD, 0x12, 0x34], .jsrExt 0x1234),
     ([0xDD, 0x12, 0x34], .jsrIx2 0x1234), ([0xED, 0x12], .jsrIx1 0x12), ([0xFD], .jsrIx),
     ([0xAE, 0x12], .ldxImm 0x12), ([0xBE, 0x12], .ldxDir 0x12),
     ([0xCE, 0x12, 0x34], .ldxExt 0x1234), ([0xDE, 0x12, 0x34], .ldxIx2 0x1234),
     ([0xEE, 0x12], .ldxIx1 0x12), ([0xFE], .ldxIx), ([0x9E, 0xDE, 0x12, 0x34], .ldxSp2 0x1234),
     ([0x9E, 0xEE, 0x12], .ldxSp1 0x12), ([0xBF, 0x12], .stxDir 0x12),
     ([0xCF, 0x12, 0x34], .stxExt 0x1234), ([0xDF, 0x12, 0x34], .stxIx2 0x1234),
     ([0xEF, 0x12], .stxIx1 0x12), ([0xFF], .stxIx), ([0x9E, 0xDF, 0x12, 0x34], .stxSp2 0x1234),
     ([0x9E, 0xEF, 0x12], .stxSp1 0x12)] := by rfl

/-- `NEG`, `COM`, `DEC`, `INC`: R230, R285, R229, R228. -/
theorem test_words_negate : Decodes
    [([0x30, 0x12], .negDir 0x12), ([0x40], .nega), ([0x50], .negx),
     ([0x60, 0x12], .negIx1 0x12), ([0x70], .negIx), ([0x9E, 0x60, 0x12], .negSp1 0x12),
     ([0x33, 0x12], .comDir 0x12), ([0x43], .coma), ([0x53], .comx),
     ([0x63, 0x12], .comIx1 0x12), ([0x73], .comIx), ([0x9E, 0x63, 0x12], .comSp1 0x12),
     ([0x3A, 0x12], .decDir 0x12), ([0x4A], .deca), ([0x5A], .decx),
     ([0x6A, 0x12], .decIx1 0x12), ([0x7A], .decIx), ([0x9E, 0x6A, 0x12], .decSp1 0x12),
     ([0x3C, 0x12], .incDir 0x12), ([0x4C], .inca), ([0x5C], .incx),
     ([0x6C, 0x12], .incIx1 0x12), ([0x7C], .incIx), ([0x9E, 0x6C, 0x12], .incSp1 0x12)] := by rfl

/-- `LSR`, `ROR`, `ASR`, `LSL`, `ROL`: R321 to R325. -/
theorem test_words_shift : Decodes
    [([0x34, 0x12], .lsrDir 0x12), ([0x44], .lsra), ([0x54], .lsrx),
     ([0x64, 0x12], .lsrIx1 0x12), ([0x74], .lsrIx), ([0x9E, 0x64, 0x12], .lsrSp1 0x12),
     ([0x36, 0x12], .rorDir 0x12), ([0x46], .rora), ([0x56], .rorx),
     ([0x66, 0x12], .rorIx1 0x12), ([0x76], .rorIx), ([0x9E, 0x66, 0x12], .rorSp1 0x12),
     ([0x37, 0x12], .asrDir 0x12), ([0x47], .asra), ([0x57], .asrx),
     ([0x67, 0x12], .asrIx1 0x12), ([0x77], .asrIx), ([0x9E, 0x67, 0x12], .asrSp1 0x12),
     ([0x38, 0x12], .lslDir 0x12), ([0x48], .lsla), ([0x58], .lslx),
     ([0x68, 0x12], .lslIx1 0x12), ([0x78], .lslIx), ([0x9E, 0x68, 0x12], .lslSp1 0x12),
     ([0x39, 0x12], .rolDir 0x12), ([0x49], .rola), ([0x59], .rolx),
     ([0x69, 0x12], .rolIx1 0x12), ([0x79], .rolIx), ([0x9E, 0x69, 0x12], .rolSp1 0x12)] := by rfl

/-- `TST`, `CLR`: R231, R192 to R194. -/
theorem test_words_test : Decodes
    [([0x3D, 0x12], .tstDir 0x12), ([0x4D], .tsta), ([0x5D], .tstx),
     ([0x6D, 0x12], .tstIx1 0x12), ([0x7D], .tstIx), ([0x9E, 0x6D, 0x12], .tstSp1 0x12),
     ([0x3F, 0x12], .clrDir 0x12), ([0x4F], .clra), ([0x5F], .clrx),
     ([0x6F, 0x12], .clrIx1 0x12), ([0x7F], .clrIx), ([0x9E, 0x6F, 0x12], .clrSp1 0x12)] := by rfl

/-- `CBEQ`, `DBNZ`: R385 to R387, R390 to R392. -/
theorem test_words_compare_branch : Decodes
    [([0x31, 0x12, 0xFE], .cbeqDir 0x12 0xFE), ([0x41, 0x12, 0xFE], .cbeqa 0x12 0xFE),
     ([0x51, 0x12, 0xFE], .cbeqx 0x12 0xFE), ([0x61, 0x12, 0xFE], .cbeqIx1Inc 0x12 0xFE),
     ([0x71, 0xFE], .cbeqIxInc 0xFE), ([0x9E, 0x61, 0x12, 0xFE], .cbeqSp1 0x12 0xFE),
     ([0x3B, 0x12, 0xFE], .dbnzDir 0x12 0xFE), ([0x4B, 0xFE], .dbnza 0xFE),
     ([0x5B, 0xFE], .dbnzx 0xFE), ([0x6B, 0x12, 0xFE], .dbnzIx1 0x12 0xFE),
     ([0x7B, 0xFE], .dbnzIx 0xFE), ([0x9E, 0x6B, 0x12, 0xFE], .dbnzSp1 0x12 0xFE)] := by rfl

/-- `STHX`, `LDHX`, `CPHX`, `MOV`, `MUL`, `DIV`, `NSA`, `DAA`, `AIS`, `AIX`: R183, R186 to R191, R227, R240 to R252, R262. -/
theorem test_words_word : Decodes
    [([0x35, 0x12], .sthx 0x12), ([0x45, 0x12, 0x34], .ldhxImm 0x1234),
     ([0x55, 0x12], .ldhxDir 0x12), ([0x65, 0x12, 0x34], .cphxImm 0x1234),
     ([0x75, 0x12], .cphxDir 0x12), ([0x4E, 0x12, 0x34], .movDirDir 0x12 0x34),
     ([0x5E, 0x12], .movDirIxInc 0x12), ([0x6E, 0x12, 0x34], .movImmDir 0x12 0x34),
     ([0x7E, 0x12], .movIxIncDir 0x12), ([0x42], .mul), ([0x52], .div), ([0x62], .nsa),
     ([0x72], .daa), ([0xA7, 0x12], .ais 0x12), ([0xAF, 0x12], .aix 0x12)] := by rfl

/-- The control, stack and transfer instructions: R195, R404, R420 to R481. -/
theorem test_words_control : Decodes
    [([0x80], .rti), ([0x81], .rts), ([0x83], .swi), ([0x84], .tap), ([0x85], .tpa),
     ([0x86], .pula), ([0x87], .psha), ([0x88], .pulx), ([0x89], .pshx), ([0x8A], .pulh),
     ([0x8B], .pshh), ([0x8C], .clrh), ([0x8E], .stop), ([0x8F], .wait), ([0x94], .txs),
     ([0x95], .tsx), ([0x97], .tax), ([0x98], .clc), ([0x99], .sec), ([0x9A], .cli),
     ([0x9B], .sei), ([0x9C], .rsp), ([0x9D], .nop), ([0x9F], .txa)] := by rfl

/-- The relative branches and `BSR`: R352 to R377, R403. -/
theorem test_words_branch : Decodes
    [([0x20, 0xFE], .bra 0xFE), ([0x21, 0xFE], .brn 0xFE), ([0x22, 0xFE], .bhi 0xFE),
     ([0x23, 0xFE], .bls 0xFE), ([0x24, 0xFE], .bcc 0xFE), ([0x25, 0xFE], .bcs 0xFE),
     ([0x26, 0xFE], .bne 0xFE), ([0x27, 0xFE], .beq 0xFE), ([0x28, 0xFE], .bhcc 0xFE),
     ([0x29, 0xFE], .bhcs 0xFE), ([0x2A, 0xFE], .bpl 0xFE), ([0x2B, 0xFE], .bmi 0xFE),
     ([0x2C, 0xFE], .bmc 0xFE), ([0x2D, 0xFE], .bms 0xFE), ([0x2E, 0xFE], .bil 0xFE),
     ([0x2F, 0xFE], .bih 0xFE), ([0x90, 0xFE], .bge 0xFE), ([0x91, 0xFE], .blt 0xFE),
     ([0x92, 0xFE], .bgt 0xFE), ([0x93, 0xFE], .ble 0xFE), ([0xAD, 0xFE], .bsr 0xFE)] := by rfl

/-- `BRSET n` is `$00 + 2n`, `BRCLR n` is `$01 + 2n`: R380, R381. -/
theorem test_words_bit_branch : Decodes
    [([0x00, 0x12, 0xFE], .brset0 0x12 0xFE), ([0x01, 0x12, 0xFE], .brclr0 0x12 0xFE),
     ([0x02, 0x12, 0xFE], .brset1 0x12 0xFE), ([0x03, 0x12, 0xFE], .brclr1 0x12 0xFE),
     ([0x04, 0x12, 0xFE], .brset2 0x12 0xFE), ([0x05, 0x12, 0xFE], .brclr2 0x12 0xFE),
     ([0x06, 0x12, 0xFE], .brset3 0x12 0xFE), ([0x07, 0x12, 0xFE], .brclr3 0x12 0xFE),
     ([0x08, 0x12, 0xFE], .brset4 0x12 0xFE), ([0x09, 0x12, 0xFE], .brclr4 0x12 0xFE),
     ([0x0A, 0x12, 0xFE], .brset5 0x12 0xFE), ([0x0B, 0x12, 0xFE], .brclr5 0x12 0xFE),
     ([0x0C, 0x12, 0xFE], .brset6 0x12 0xFE), ([0x0D, 0x12, 0xFE], .brclr6 0x12 0xFE),
     ([0x0E, 0x12, 0xFE], .brset7 0x12 0xFE), ([0x0F, 0x12, 0xFE], .brclr7 0x12 0xFE)] := by rfl

/-- `BSET n` is `$10 + 2n`, `BCLR n` is `$11 + 2n`: R286, R287. -/
theorem test_words_bit : Decodes
    [([0x10, 0x12], .bset0 0x12), ([0x11, 0x12], .bclr0 0x12), ([0x12, 0x12], .bset1 0x12),
     ([0x13, 0x12], .bclr1 0x12), ([0x14, 0x12], .bset2 0x12), ([0x15, 0x12], .bclr2 0x12),
     ([0x16, 0x12], .bset3 0x12), ([0x17, 0x12], .bclr3 0x12), ([0x18, 0x12], .bset4 0x12),
     ([0x19, 0x12], .bclr4 0x12), ([0x1A, 0x12], .bset5 0x12), ([0x1B, 0x12], .bclr5 0x12),
     ([0x1C, 0x12], .bset6 0x12), ([0x1D, 0x12], .bclr6 0x12), ([0x1E, 0x12], .bset7 0x12),
     ([0x1F, 0x12], .bclr7 0x12)] := by rfl

theorem test_decode_truncated : decode [0x9E, 0xD6, 0x02] = .error .truncated := by rfl
theorem test_decode_empty_cell : decode [0xAC, 0x00] = .error (.unassigned 0xAC) := by rfl
theorem test_decode_prebyte_twice :
    decode [0x9E, 0x9E, 0x00, 0x00] = .error (.unassignedAfterPrebyte 0x9E) := by rfl
theorem test_table_word : decodeTableWord 16 0x9ED6 = some (.ldaSp2 0) := by rfl
theorem test_table_operand : decodeTableWord 8 0xA6 = some (.ldaImm 0) := by rfl

/-! ### The step and the exceptions -/

/-- B10 #13: `LDA #$55` at `$FFFF`, its operand byte at `$0000`. -/
def wrapping : State :=
  { ram [(0, 0x55), (1, 0), (2, 0), (0xFFFF, 0xA6)] with pc := 0xFFFF }

theorem test_step_wraps : after (step wrapping) (fun t => (t.a, t.pc)) = some (0x55, 0x0001) := by
  rfl

/-- Every address of the default device is RAM. -/
theorem isRam_default {s : State} (h : s.device = Device.allRam) (a : Word) : IsRam s a := by
  have ha := a.isLt
  have hk : AddrRange.holds ⟨0, 0xFFFF⟩ a = true := by simp [AddrRange.holds]; omega
  unfold IsRam regionKind isIllegal
  rw [h]
  simp [Device.allRam, hk]

theorem isMemory_default {s : State} (h : s.device = Device.allRam) (a : Word) : IsMemory s a :=
  ⟨.inl (isRam_default h a).1, (isRam_default h a).2⟩

theorem accessible_default {s : State} (h : s.device = Device.allRam) (hr : s.resetIn = none)
    (a : Word) : Accessible s a :=
  ⟨hr, (isRam_default h a).2⟩

theorem witness_DecodeEncode : (Instr.ldaSp2 0xFFFF).wf = true := by rfl

theorem witness_DecodeSound :
    decode [0x9E, 0x6B, 0x10, 0xFC, 0x9D] = .ok (.dbnzSp1 0x10 0xFC, [0x9D]) := by rfl

theorem witness_StepRunsDecodedInstruction :
    wrapping = takeInput wrapping ∧ wrapping.run = .running ∧ wrapping.resetIn = none ∧
    recognise wrapping = none ∧ overwritten wrapping wrapping.pc = none ∧
    decode (bytesAt wrapping wrapping.pc 4) = .ok (.ldaImm 0x55, [0, 0]) ∧
    (∀ k, k < (Instr.ldaImm 0x55).length → IsMemory wrapping (wrapping.pc + BitVec.ofNat 16 k)) :=
  ⟨rfl, rfl, rfl, rfl, rfl, rfl, fun _ _ => isMemory_default rfl _⟩

/-- B9 #14 and #15: an unassigned opcode, and an unassigned pair, at `$0100`. -/
def unassigned (device : Device) (first second : Byte) : State :=
  { ram [(0x100, first), (0x101, second), (0x102, 0), (0x103, 0), (0xFFFE, 0xC0), (0xFFFF, 0x00)] with
    device := device }

theorem test_unassigned_resets :
    after (step (unassigned Device.allRam 0x32 0)) (fun t => (t.pc, t.sp, t.lastReset)) =
      some (0xC000, 0x00FF, .illegalOpcode) := by rfl

theorem test_unassigned_refused :
    step (unassigned board 0x9E 0x9E) = .refused (.illegalOpcode [0x9E, 0x9E]) := by rfl

theorem witness_UnassignedOpcodeStep :
    (∀ d, d = Device.allRam ∨ d = board → ∀ a b, ((a, b) = (0x32, 0) ∨ (a, b) = (0x9E, 0x9E)) →
      (unassigned d a b).run = .running ∧ (unassigned d a b).resetIn = none ∧
      unassigned d a b = takeInput (unassigned d a b) ∧
      recognise (unassigned d a b) = none ∧ overwritten (unassigned d a b) 0x0100 = none ∧
      IsMemory (unassigned d a b) 0x0100 ∧ IsMemory (unassigned d a b) 0x0101) ∧
    decode (bytesAt (unassigned board 0x32 0) 0x0100 4) = .error (.unassigned 0x32) ∧
    decode (bytesAt (unassigned board 0x9E 0x9E) 0x0100 4) = .error (.unassignedAfterPrebyte 0x9E) := by
  refine ⟨?_, rfl, rfl⟩
  rintro d (rfl | rfl) a b (h | h) <;> cases h <;>
    exact ⟨rfl, rfl, rfl, rfl, rfl, ⟨.inl rfl, rfl⟩, ⟨.inl rfl, rfl⟩⟩

/-- A reset due right after the last byte of an unassigned opcode is performed, on a device without the
illegal-opcode reset too (log entry 18); one byte later it is not due. -/
theorem test_unassigned_reset_due :
    after (step { unassigned board 0x9E 0x9E with resetIn := some ⟨.externalPin, 2⟩ })
      (fun t => (t.pc, t.lastReset)) = some (0xC000, .externalPin) := by rfl

theorem test_unassigned_reset_not_due :
    step { unassigned board 0x9E 0x9E with resetIn := some ⟨.externalPin, 3⟩ } =
      .refused (.illegalOpcode [0x9E, 0x9E]) := by rfl

/-- `STA $50` and the opcode it overwrites: the record that the next fetch reads. The last address of
RAM, a push, an interrupt entry that writes `$00FF`, and the fetch. -/
theorem witness_OpcodePrefetchHazard :
    (∃ t, regionKind (ram []).device 0xFFFF = .ram ∧ busWrite 0xFFFF 0x9D (ram []) = .ok () t) ∧
    (∃ t, Uncut (ram [(0xFF, 0x9D)]) ∧ (ram [(0xFF, 0x9D)]).recent = [] ∧
      exec .psha (ram [(0xFF, 0x9D)]) = .next t ∧ t.byteAt 0xFF ≠ (ram [(0xFF, 0x9D)]).byteAt 0xFF) ∧
    (∃ t, Uncut (ram [(0xFF, 0x9D)]) ∧ finish (interruptEntry 0 (ram [(0xFF, 0x9D)])) = .next t ∧
      t.byteAt 0xFF ≠ (ram [(0xFF, 0x9D)]).byteAt 0xFF) ∧
    (∃ s1, (ram [(0x50, 0x9D)]).recent = [] ∧
      regionKind (ram [(0x50, 0x9D)]).device (effectiveAddress (.dir 0x50) (ram [(0x50, 0x9D)])) = .ram ∧
      busWrite (effectiveAddress (.dir 0x50) (ram [(0x50, 0x9D)])) (ram [(0x50, 0x9D)]).a
        (ram [(0x50, 0x9D)]) = .ok () s1) ∧
    (let s := { ram [(0x50, 0x9A)] with pc := 0x50, recent := [⟨0x50, 0x9D⟩] }
     Accessible s s.pc ∧ regionKind s.device s.pc = .ram ∧ overwritten s s.pc = some 0x9D) :=
  ⟨⟨_, rfl, rfl⟩, ⟨_, ⟨rfl, rfl⟩, rfl, rfl, by decide⟩, ⟨_, ⟨rfl, rfl⟩, rfl, by decide⟩,
    ⟨_, rfl, rfl, rfl⟩, accessible_default rfl rfl _, rfl, rfl⟩

/-- `CLI` at `$0100`, which opens the window (B8 #13). -/
def atCli : State := ram [(0x100, 0x9A)]

theorem test_cli_window :
    after (step atCli) (fun t => (t.ccr.i, t.iWindow, t.pc)) = some (false, some true, 0x0101) := by rfl

theorem test_reset_invariant : State.reset.mem.wf = true := by decide

theorem witness_StepKeepsInvariant : Invariant atCli ∧ ∃ t, step atCli = .next t :=
  ⟨⟨rfl, .inl rfl, nofun⟩, _, rfl⟩

/-- `STA $8000` on a device where `$8000` is ROM (20_memory.md R77). -/
def romStore : State :=
  { ram [(0x100, 0xC7), (0x101, 0x80), (0x102, 0x00), (0x8000, 0x11)] with device := board, a := 0x22 }

theorem test_rom_keeps : after (step romStore) (fun t => t.byteAt 0x8000) = some 0x11 := by rfl

theorem witness_StepKeepsFixedMemory :
    (∃ t, step romStore = .next t) ∧ regionKind romStore.device 0x8000 ≠ .ram :=
  ⟨⟨_, rfl⟩, by decide⟩

/-- B9 #11 to #13: reset events, in stop mode, with either mode on the pins. -/
def resetting (source : ResetSource) (monitor : Bool) : State :=
  { ram [(0xFEFE, 0xFE), (0xFEFF, 0x20), (0xFFFE, 0xC0), (0xFFFF, 0x00)] with
    sp := 0x1234, run := .stopped, modePin := monitor, resetIn := some ⟨source, 0⟩ }

theorem test_reset_user :
    after (step (resetting .externalPin false)) (fun t => (t.pc, t.sp, t.h, t.ccr.i, t.run)) =
      some (0xC000, 0x00FF, 0x00, true, .running) := by rfl

theorem test_reset_monitor :
    after (step (resetting .cop true)) (fun t => (t.pc, t.monitorMode)) = some (0xFE20, true) := by rfl

/-- 70_reset_and_hazards.md R571: a power-on reset leaves nothing of what RAM held. -/
theorem test_power_on_loses_ram :
    after (step (resetting .powerOn false)) (fun t => (t.mem, t.powerLosses)) = some ([], 1) := by rfl

theorem witness_ResetProcessing :
    ∀ source monitor, resetting source monitor = takeInput (resetting source monitor) ∧
      (resetting source monitor).resetIn = some ⟨source, 0⟩ ∧
      ∀ v, IsMemory (resetting source monitor) v :=
  fun _ _ => ⟨rfl, rfl, isMemory_default rfl⟩

/-- No reset is due in a state with none under way. -/
theorem notDue {s : State} (h : s.resetIn = none) : ¬ ResetDue s := by
  rintro ⟨_, hs⟩
  rw [h] at hs
  cases hs

/-- The default machine with illegal addresses from `lo` to `hi`. -/
def forbidding (lo hi : Nat) (m : Memory) : State :=
  { ram m with device := { Device.allRam with illegalAddr := [⟨lo, hi⟩] } }

/-- The two ends of the illegal addresses of `board`, with no reset and with one a single access away;
`STHX $FF` whose second byte is illegal; `LDA #$55` across the last address, its opcode (`k = 0`) and its
operand (`k = 1`) illegal; pushes and pulls; the vectors of `SWI`, of the first and of the last request
and, in monitor mode, of the reset, at either byte; and a reset that is due. -/
theorem witness_IllegalAddressReset :
    (∀ a : Word, a ∈ [0x4000, 0x5FFF] →
      ∀ r : Option ResetEvent, r ∈ [none, some ⟨.externalPin, 1⟩] →
      ¬ ResetDue { ram [] with device := board, resetIn := r } ∧
      isIllegal board a = true ∧ effectiveAddress (.ext a) { ram [] with device := board } = a) ∧
    (∃ s1, busWrite 0xFF 0 (forbidding 0x100 0x100 []) = .ok () s1 ∧ ¬ ResetDue s1 ∧
      isIllegal (forbidding 0x100 0x100 []).device ((0xFF : Byte).setWidth 16 + 1) = true) ∧
    (∀ k, k ∈ [0, 1] → let a : Word := 0xFFFF + BitVec.ofNat 16 k
      let s := { wrapping with device := (forbidding a.toNat a.toNat []).device }
      s = takeInput s ∧ s.run = .running ∧ s.resetIn = none ∧ recognise s = none ∧
      overwritten s s.pc = none ∧ k < (Instr.ldaImm 0x55).length ∧
      decode (bytesAt s s.pc 4) = .ok (.ldaImm 0x55, [0, 0]) ∧
      isIllegal s.device (s.pc + BitVec.ofNat 16 k) = true) ∧
    (let s := forbidding 0xFF 0x100 []
     ¬ ResetDue s ∧ isIllegal s.device s.sp = true ∧ isIllegal s.device (s.sp + 1) = true) ∧
    (∀ v, v ∈ [swiVector, ireqVector 0, ireqVector 125] →
      let s := forbidding v.toNat v.toNat []
      ∃ s1 s2 s3 s4 s5, busWrite s.sp (loByte s.pc) { s with recent := [] } = .ok () s1 ∧
        busWrite (s.sp - 1) (hiByte s.pc) s1 = .ok () s2 ∧ busWrite (s.sp - 2) s.x s2 = .ok () s3 ∧
        busWrite (s.sp - 3) s.a s3 = .ok () s4 ∧
        busWrite (s.sp - 4) (ccrByte s.ccr) s4 = .ok () s5 ∧ ¬ ResetDue s5 ∧
        isIllegal s.device (vectorAddress s.monitorMode v) = true) ∧
    (isIllegal (forbidding 0xFFFF 0xFFFF []).device (vectorAddress false resetVector + 1) = true ∧
      isIllegal (forbidding 0xFEFE 0xFEFE []).device (vectorAddress true resetVector) = true) ∧
    ResetDue { State.reset with resetIn := some ⟨.illegalAddress, 0⟩ } := by
  refine ⟨?_, ⟨_, rfl, notDue rfl, rfl⟩, ?_, ⟨notDue rfl, rfl, rfl⟩, ?_, ⟨rfl, rfl⟩, _, rfl⟩
  · intro a ha r hr
    refine ⟨?_, ?_, rfl⟩
    · rintro ⟨source, e⟩; rw [show r = _ from e] at hr; simp at hr
    · simp only [List.mem_cons, List.not_mem_nil, or_false] at ha
      rcases ha with rfl | rfl <;> rfl
  · intro k hk
    simp only [List.mem_cons, List.not_mem_nil, or_false] at hk
    rcases hk with rfl | rfl <;> exact ⟨rfl, rfl, rfl, rfl, rfl, by decide, rfl, rfl⟩
  · intro v hv
    simp only [List.mem_cons, List.not_mem_nil, or_false] at hv
    rcases hv with rfl | rfl | rfl <;> exact ⟨_, _, _, _, _, rfl, rfl, rfl, rfl, rfl, notDue rfl, rfl⟩

/-- A reset vector at an illegal address, and the environment's next event, on its way: the machine
resets again and executes nothing (60_exceptions.md R503). -/
def looping : State :=
  { forbidding 0xFFFE 0xFFFF [(0x100, 0x4C)] with
    resetIn := some ⟨.cop, 0⟩, inputs := [⟨none, [], true, false⟩, ⟨some ⟨.externalPin, 7⟩, [], true, false⟩] }

theorem test_reset_loop :
    after (step looping) (fun t => (t.resetIn, t.lastReset)) =
        some (some ⟨.illegalAddress, 0⟩, .cop) ∧
      ((after (step looping) step).bind fun r => after r (fun t => (t.resetIn, t.lastReset, t.sp))) =
        some (some ⟨.illegalAddress, 0⟩, .illegalAddress, 0x00FF) := by
  constructor <;> rfl

/-- `STHX $FF` (B10 #7) with a reset after its first write. -/
def cutStore : State :=
  { ram [(0xFFFE, 0xC0), (0xFFFF, 0x00)] with h := 0xAB, x := 0xCD, resetIn := some ⟨.cop, 1⟩ }

theorem test_reset_inside_store :
    after (exec (.sthx 0xFF) cutStore) (fun t => (t.mem.read 0xFF, t.mem.read 0x100, t.pc)) =
      some (some 0xAB, none, 0xC000) := by rfl

theorem witness_ResetInsideStore :
    cutStore.resetIn = some ⟨.cop, 1⟩ ∧ ResetSource.cop ≠ .powerOn ∧
      IsRam cutStore ((0xFF : Byte).setWidth 16) :=
  ⟨rfl, by decide, isRam_default rfl _⟩

/-! ### Interrupts and the low-power states -/

/-- The machine of B9: `NOP` at `$0300`, registers and vectors. -/
def b9 : State :=
  { ram [(0x300, 0x9D), (0xFEFA, 0xFE), (0xFEFB, 0x40), (0xFF00, 0xCF), (0xFF01, 0x7D),
      (0xFFF8, 0xC3), (0xFFF9, 0x00), (0xFFFA, 0xC2), (0xFFFB, 0x00)] with
    a := 0x12, h := 0x56, x := 0x34, pc := 0x0300, ccr := ccrOf 000010 }

/-- The stack frame of B9, from `$00FF` down to `$00FB`. -/
def frame (s : State) : List Byte := [s.byteAt 0xFF, s.byteAt 0xFE, s.byteAt 0xFD, s.byteAt 0xFC, s.byteAt 0xFB]

theorem test_interrupt_0 :
    after (step { b9 with ireq := [0] }) (fun t => (t.pc, t.sp, vhinzc t, frame t)) =
      some (0xC200, 0x00FA, flags 001010, [0x00, 0x03, 0x34, 0x12, 0x62]) := by rfl

theorem test_interrupt_125 :
    after (step { b9 with ireq := [125] }) (fun t => t.pc) = some 0xCF7D := by rfl

theorem test_interrupt_least :
    after (step { b9 with ireq := [125, 1, 5] }) (fun t => t.pc) = some 0xC300 := by rfl

theorem test_interrupt_monitor :
    after (step { b9 with ireq := [0], monitorMode := true }) (fun t => t.pc) = some 0xFE40 := by rfl

theorem test_interrupt_masked :
    after (step { b9 with ireq := [0], ccr := ccrOf 001010 }) (fun t => t.pc) = some 0x0301 := by rfl

/-- The last line that exists, a mask that is set, and a request on the first line that does not. -/
theorem witness_InterruptRecognition :
    (let s := { b9 with ireq := [125] }
     s = takeInput s ∧ s.run = .running ∧ s.resetIn = none ∧ s.iWindow = none ∧ s.ccr.i = false ∧
       125 ∈ s.ireq ∧ 125 < s.device.nIreq ∧ ∀ m ∈ s.ireq, m < s.device.nIreq → 125 ≤ m) ∧
    (let s := { b9 with ireq := [0], ccr := ccrOf 001010 }
     s = takeInput s ∧ s.run = .running ∧ s.resetIn = none ∧ s.iWindow = none ∧ s.ccr.i = true) ∧
    (let s := { b9 with ireq := [126] }
     s = takeInput s ∧ s.run = .running ∧ s.resetIn = none ∧ s.iWindow = none ∧
       ∀ m ∈ s.ireq, s.device.nIreq ≤ m) := by decide

/-- B9 #27: after `CLI`, with `IREQ[0]` asserted; and with the first line that does not exist. -/
theorem witness_MaskWindow :
    (let s := { b9 with ireq := [0], iWindow := some true }
     s = takeInput s ∧ s.run = .running ∧ s.resetIn = none ∧ s.iWindow = some true ∧ 0 ∈ s.ireq ∧
       0 < s.device.nIreq ∧ ∀ m ∈ s.ireq, m < s.device.nIreq → 0 ≤ m) ∧
    (let s := { b9 with ireq := [126], iWindow := some true }
     s = takeInput s ∧ s.run = .running ∧ s.resetIn = none ∧ s.iWindow = some true ∧
       ∀ m ∈ s.ireq, s.device.nIreq ≤ m) := by decide

/-- The accesses of an exception complete: five writes from `SP` down, two reads of the vector. -/
def EntryAccesses (start s : State) (vector : Word) : Prop :=
  ∃ s1 s2 s3 s4 s5 s6 s7 hi lo,
    busWrite s.sp (loByte s.pc) start = .ok () s1 ∧
    busWrite (s.sp - 1) (hiByte s.pc) s1 = .ok () s2 ∧
    busWrite (s.sp - 2) s.x s2 = .ok () s3 ∧
    busWrite (s.sp - 3) s.a s3 = .ok () s4 ∧
    busWrite (s.sp - 4) (ccrByte s.ccr) s4 = .ok () s5 ∧
    busRead vector s5 = .ok hi s6 ∧ busRead (vector + 1) s6 = .ok lo s7

/-- The last request, and the first in monitor mode; with `SP = $0002` the frame wraps. -/
theorem witness_InterruptEntry :
    125 ≤ 125 ∧ EntryAccesses { b9 with recent := [] } b9 (0xFFFA - BitVec.ofNat 16 (2 * 125)) ∧
    (let s := { b9 with sp := 0x0002, monitorMode := true }
     EntryAccesses { s with recent := [] } s (0xFEFA - BitVec.ofNat 16 (2 * 0))) :=
  ⟨Nat.le_refl _, ⟨_, _, _, _, _, _, _, _, _, rfl, rfl, rfl, rfl, rfl, rfl, rfl⟩,
    ⟨_, _, _, _, _, _, _, _, _, rfl, rfl, rfl, rfl, rfl, rfl, rfl⟩⟩

theorem witness_LowPowerStates :
    (let s := { b9 with run := .waiting, ireq := [125] }
     s = takeInput s ∧ s.resetIn = none ∧ 125 ∈ s.ireq ∧ 125 < s.device.nIreq ∧
       ∀ m ∈ s.ireq, m < s.device.nIreq → 125 ≤ m) ∧
    (let s := { b9 with run := .waiting, ireq := [126] }
     s = takeInput s ∧ s.resetIn = none ∧ ∀ m ∈ s.ireq, s.device.nIreq ≤ m) ∧
    (let s := { b9 with run := .stopped, ireq := [5, 0] }
     s = takeInput s ∧ s.resetIn = none ∧ 0 ∈ s.ireq ∧ 0 ∈ s.device.stopWake ∧
       ∀ m ∈ s.ireq, m ∈ s.device.stopWake → 0 ≤ m) ∧
    (let s := { b9 with run := .stopped, ireq := [5] }
     s = takeInput s ∧ s.resetIn = none ∧ ∀ m ∈ s.ireq, m ∉ s.device.stopWake) := by decide

/-- B9 #24: in stop mode a line outside `STOP_WAKE` changes nothing. -/
theorem test_stays_stopped :
    step { b9 with run := .stopped, ireq := [5] } = .next { b9 with run := .stopped, ireq := [5] } := by
  rfl

/-! ### Accesses by kind of memory -/

theorem witness_BusReadByKind :
    let s := { ram [(0x3FFF, 0x11), (0x8000, 0x22)] with device := board }
    Accessible s 0x3FFF ∧ IsMemory s 0x3FFF ∧ Accessible s 0x8000 ∧ IsMemory s 0x8000 ∧
    Accessible s 0x003F ∧ regionKind s.device 0x003F = .io ∧ s.ioIn = [] ∧
    ({ s with ioIn := [0x77] } : State).ioIn = 0x77 :: [] ∧
    Accessible s 0x6000 ∧ regionKind s.device 0x6000 = .unimplemented :=
  ⟨⟨rfl, rfl⟩, ⟨.inl rfl, rfl⟩, ⟨rfl, rfl⟩, ⟨.inr rfl, rfl⟩, ⟨rfl, rfl⟩, rfl, rfl, rfl, ⟨rfl, rfl⟩, rfl⟩

theorem witness_BusWriteByKind :
    let s := { ram [] with device := board }
    (Accessible s 0x3FFF ∧ regionKind s.device 0x3FFF = .ram) ∧
    (Accessible s 0x8000 ∧ regionKind s.device 0x8000 = .rom) ∧
    (Accessible s 0x003F ∧ regionKind s.device 0x003F = .io) ∧
    (Accessible s 0x6000 ∧ regionKind s.device 0x6000 = .unimplemented) :=
  ⟨⟨⟨rfl, rfl⟩, rfl⟩, ⟨⟨rfl, rfl⟩, rfl⟩, ⟨⟨rfl, rfl⟩, rfl⟩, ⟨⟨rfl, rfl⟩, rfl⟩⟩

/-- `INC $3F` on an I/O register: one read, one write. -/
theorem test_io_increment :
    after (exec (.incDir 0x3F) { ram [] with device := board, ioIn := [0x7F] })
      (fun t => (t.ioLog, vhinzc t)) =
      some ([.write 0x3F 0x80, .read 0x3F 0x7F], flags 101100) := by rfl

theorem witness_IoReadModifyWrite :
    let s := { ram [] with device := board, ioIn := [0x7F] }
    (0x3F : Word) = effectiveAddress (RmwAddr.dir 0x3F).addr s ∧ Accessible s 0x3F ∧
      regionKind s.device 0x3F = .io ∧ s.ioIn = 0x7F :: [] :=
  ⟨rfl, ⟨rfl, rfl⟩, rfl, rfl⟩

theorem witness_OnlyListedInstructionsChangeH :
    Uncut State.reset ∧ (∃ t, exec .mul State.reset = .next t) ∧ changesH .mul = false :=
  ⟨⟨rfl, rfl⟩, ⟨_, rfl⟩, rfl⟩

theorem witness_FlagWriteSummary :
    Uncut State.reset ∧ (∃ t, exec .mul State.reset = .next t) ∧
      ∃ t, finish (interruptEntry 125 State.reset) = .next t :=
  ⟨⟨rfl, rfl⟩, ⟨_, rfl⟩, ⟨_, rfl⟩⟩

/-! ### Loads, stores, moves, clears -/

/-- B1 #11: `LDA $FF,SP`; B1 #1: `LDA #$80`. -/
theorem witness_LoadByteForms :
    (∃ s1, readOperand (.mem (.sp1 0xFF)) (ram [(0x1FE, 0x11)]) = .ok 0x11 s1) ∧
    readOperand (.imm 0x80) State.reset = .ok 0x80 State.reset :=
  ⟨⟨_, rfl⟩, rfl⟩

theorem test_lda :
    after (exec (.ldaSp1 0xFF) (ram [(0x1FE, 0x11)])) (fun t => (t.a, vhinzc t)) =
      some (0x11, flags 001000) := by rfl

/-- B1 #17: `LDX ,X` takes its address from the old `X`. -/
theorem test_ldx :
    after (exec .ldxIx { ram [(0x1234, 0x56)] with h := 0x12, x := 0x34 }) (fun t => (t.h, t.x)) =
      some (0x12, 0x56) := by rfl

/-- B1 #25: `LDHX $FF` reads `$00FF` and `$0100`. -/
theorem witness_LoadIndexRegister :
    ∃ s1 s2, busRead ((0xFF : Byte).setWidth 16) (ram [(0xFF, 0xAB), (0x100, 0xCD)]) = .ok 0xAB s1 ∧
      busRead ((0xFF : Byte).setWidth 16 + 1) s1 = .ok 0xCD s2 :=
  ⟨_, _, rfl, rfl⟩

theorem test_ldhx :
    after (exec (.ldhxDir 0xFF) (ram [(0xFF, 0xAB), (0x100, 0xCD)])) (fun t => (t.hx, vhinzc t)) =
      some (0xABCD, flags 001100) := by rfl

/-- B10 #4: `STA $FFFF,SP` wraps to `$00FE`. -/
theorem witness_StoreByteForms :
    ∃ s1, busWrite (effectiveAddress (.sp2 0xFFFF) State.reset) State.reset.a State.reset = .ok () s1 :=
  ⟨_, rfl⟩

theorem test_sta :
    after (exec (.staSp2 0xFFFF) { State.reset with a := 0x77 }) (fun t => t.mem) =
      some [(0xFE, 0x77)] := by rfl

/-- B1 #34: `STX ,X` stores `X` at `H:X`. -/
theorem test_stx :
    after (exec .stxIx { State.reset with h := 0x03, x := 0x80 }) (fun t => (t.mem, vhinzc t)) =
      some ([(0x380, 0x80)], flags 001100) := by rfl

/-- B1 #38: `STHX $FF`. -/
theorem witness_StoreIndexRegister :
    ∃ s1 s2, (0x00FF : Word) = (0xFF : Byte).setWidth 16 ∧
      busWrite 0x00FF State.reset.h State.reset = .ok () s1 ∧
      busWrite (0x00FF + 1) State.reset.x s1 = .ok () s2 :=
  ⟨_, _, rfl, rfl, rfl⟩

theorem test_sthx :
    after (exec (.sthx 0xFF) { State.reset with h := 0x12, x := 0x34 }) (fun t => t.mem) =
      some [(0xFF, 0x12), (0x100, 0x34)] := by rfl

/-- One read and one write complete. -/
def ReadWrite (s : State) (source dest : Word) (value : Byte → Byte) : Prop :=
  ∃ v s1 s2, busRead source s = .ok v s1 ∧ busWrite dest (value v) s1 = .ok () s2

/-- B1 #42, #44, #46: the source is the destination, and `H:X` is at the end of memory. -/
theorem witness_MoveForms :
    ReadWrite (ram [(0x50, 0)]) ((0x50 : Byte).setWidth 16) ((0x50 : Byte).setWidth 16) id ∧
    ReadWrite { ram [(0x10, 0x21)] with x := 0x10 } ((0x10 : Byte).setWidth 16) 0x0010 id ∧
    ReadWrite { ram [(0xFFFF, 0x81)] with h := 0xFF, x := 0xFF } 0xFFFF ((0x50 : Byte).setWidth 16) id ∧
    ∃ s1, busWrite ((0x50 : Byte).setWidth 16) 0x80 State.reset = .ok () s1 :=
  ⟨⟨_, _, _, rfl, rfl⟩, ⟨_, _, _, rfl, rfl⟩, ⟨_, _, _, rfl, rfl⟩, ⟨_, rfl⟩⟩

theorem test_mov_ix_dir :
    after (exec (.movIxIncDir 0x50) { ram [(0xFFFF, 0x81)] with h := 0xFF, x := 0xFF })
      (fun t => (t.hx, t.byteAt 0x50, vhinzc t)) = some (0x0000, 0x81, flags 001100) := by rfl

/-- B1 #43: `MOV $50,X+` carries into `H`. -/
theorem test_mov_dir_ix :
    after (exec (.movDirIxInc 0x50) { ram [(0x50, 0xC3)] with h := 0x02, x := 0xFF })
      (fun t => (t.hx, t.byteAt 0x2FF)) = some (0x0300, 0xC3) := by rfl

theorem witness_ClearForms :
    ∃ s1, busWrite (effectiveAddress (RmwAddr.sp1 0xFF).addr State.reset) 0 State.reset = .ok () s1 :=
  ⟨_, rfl⟩

/-- B1 #47: `CLR $50` leaves `H`, `I` and `C`. -/
theorem test_clr :
    after (exec (.clrDir 0x50) { ram [(0x50, 0xFF)] with ccr := ccrOf 111101 })
      (fun t => (t.byteAt 0x50, vhinzc t)) = some (0x00, flags 011011) := by rfl

/-! ### Arithmetic -/

/-- B2 #18: `ADC $01,SP` with a carry in; B2 #8. -/
theorem witness_AddAndAdc :
    (∃ s1, readOperand (.mem (.sp1 0x01)) (ram [(0x100, 0xF0)]) = .ok 0xF0 s1) ∧
    readOperand (.imm 0x88) State.reset = .ok 0x88 State.reset :=
  ⟨⟨_, rfl⟩, rfl⟩

theorem test_adc :
    after (exec (.adcSp1 0x01) { ram [(0x100, 0xF0)] with a := 0x0F, ccr := ccrOf 000001 })
      (fun t => (t.a, vhinzc t)) = some (0x00, flags 010011) := by rfl

theorem test_add :
    after (exec (.addImm 0x88) { State.reset with a := 0x88 }) (fun t => (t.a, vhinzc t)) =
      some (0x10, flags 111001) := by rfl

theorem witness_SubAndSbc : readOperand (.imm 0xFF) State.reset = .ok 0xFF State.reset := by rfl

/-- B2 #28: `SBC #$FF` from `$00` with a borrow in. -/
theorem test_sbc :
    after (exec (.sbcImm 0xFF) { State.reset with ccr := ccrOf 001001 }) (fun t => (t.a, vhinzc t)) =
      some (0x00, flags 001011) := by rfl

/-- B2 #23: `SUB #$80` from `$00`. -/
theorem test_sub :
    after (exec (.subImm 0x80) { State.reset with ccr := ccrOf 011000 }) (fun t => (t.a, vhinzc t)) =
      some (0x80, flags 111101) := by rfl

theorem witness_CompareSetsFlagsOnly : readOperand (.imm 0x7F) State.reset = .ok 0x7F State.reset := by rfl

/-- B2 #32: `CMP #$7F` with `A = $80`. -/
theorem test_cmp :
    after (exec (.cmpImm 0x7F) { State.reset with a := 0x80 }) (fun t => (t.a, vhinzc t)) =
      some (0x80, flags 101000) := by rfl

/-- B10 #8: `CPHX $FF`. -/
theorem witness_CompareIndexRegister :
    ∃ s1 s2, busRead ((0xFF : Byte).setWidth 16) (ram [(0xFF, 0x12), (0x100, 0x34)]) = .ok 0x12 s1 ∧
      busRead ((0xFF : Byte).setWidth 16 + 1) s1 = .ok 0x34 s2 :=
  ⟨_, _, rfl, rfl⟩

/-- B2 #42: `CPHX #$FFFF` with `H:X = $7FFF`. -/
theorem test_cphx :
    after (exec (.cphxImm 0xFFFF) { State.reset with h := 0x7F, x := 0xFF }) (fun t => vhinzc t) =
      some (flags 101101) := by rfl

theorem witness_BranchesAfterCompare :
    let s := { State.reset with a := 0x80 }
    readOperand (.imm 0x7F) s = .ok 0x7F s ∧ ∃ t, exec (.cmpOf (.imm 0x7F)) s = .next t :=
  ⟨rfl, _, rfl⟩

/-- A read-modify-write of the byte at the end of the direct page. -/
theorem witness_IncDecNegCom (value : Byte → Byte) :
    ReadWrite (ram [(0xFF, 0x7F)]) (effectiveAddress (RmwAddr.dir 0xFF).addr (ram [(0xFF, 0x7F)]))
      (effectiveAddress (RmwAddr.dir 0xFF).addr (ram [(0xFF, 0x7F)])) value :=
  ⟨_, _, _, rfl, rfl⟩

/-- B2 #50, #53, #59 and B3 #15. -/
theorem test_inc :
    after (exec (.incIx1 0x01) { ram [(0x201, 0x7F)] with h := 0x02 })
      (fun t => (t.byteAt 0x201, vhinzc t)) = some (0x80, flags 101100) := by rfl
theorem test_dec :
    after (exec .deca State.reset) (fun t => (t.a, vhinzc t)) = some (0xFF, flags 001100) := by rfl
theorem test_neg :
    after (exec .nega { State.reset with a := 0x80 }) (fun t => (t.a, vhinzc t)) =
      some (0x80, flags 101101) := by rfl
theorem test_com :
    after (exec .comx { State.reset with h := 0x12, x := 0x55 }) (fun t => (t.hx, vhinzc t)) =
      some (0x12AA, flags 001101) := by rfl

theorem witness_TestSetsFlagsOnly :
    ∃ s1, busRead (effectiveAddress RmwAddr.ix.addr (ram [(0, 0xFF)])) (ram [(0, 0xFF)]) = .ok 0xFF s1 :=
  ⟨_, rfl⟩

/-- B2 #66: `TST $50`. -/
theorem test_tst :
    after (exec (.tstDir 0x50) { ram [(0x50, 0x7F)] with ccr := ccrOf 100110 }) (fun t => vhinzc t) =
      some (flags 000000) := by rfl

/-- B2 #68: `MUL`. -/
theorem test_mul :
    after (exec .mul { State.reset with a := 0xFF, h := 0x12, x := 0xFF, ccr := ccrOf 111111 })
      (fun t => (t.a, t.hx, vhinzc t)) = some (0x01, 0x12FE, flags 101110) := by rfl

/-- B2 #74: a quotient of zero; B2 #77: the first overflow. -/
theorem test_div :
    after (exec .div { State.reset with a := 0x07, x := 0x08, ccr := ccrOf 001001 })
      (fun t => (t.a, t.hx, vhinzc t)) = some (0x00, 0x0708, flags 001010) := by decide
theorem test_div_overflow :
    after (exec .div { State.reset with h := 0x05, x := 0x05 }) (fun t => (t.x, t.ccr.c)) =
      some (0x05, true) := by rfl

/-- `H` one below `X`; `H` equal to `X`; and `X = 0`. -/
theorem witness_DivideOrFreeQuotient :
    (let s := { State.reset with h := 0xFE, x := 0xFF }
     s.h.toNat < s.x.toNat) ∧
    (let s := { State.reset with h := 0x05, x := 0x05 }
     s.x.toNat ≤ s.h.toNat) ∧
    State.reset.x.toNat ≤ State.reset.h.toNat := by decide

/-- B2 #82, #86 and #88. -/
theorem test_ais :
    after (exec (.ais 0xFF) { State.reset with sp := 0x0000 }) (fun t => t.sp) = some 0xFFFF := by rfl
theorem test_aix :
    after (exec (.aix 0x80) { State.reset with h := 0x12, x := 0x34 }) (fun t => t.hx) =
      some 0x11B4 := by rfl
theorem test_nsa :
    after (exec .nsa { State.reset with a := 0x1F }) (fun t => t.a) = some 0xF1 := by rfl

/-- B2 #93, the end of a row of Table 5-2; B2 #109 is in none. -/
theorem witness_DecimalAdjust :
    (∃ row ∈ daaTable, daaMatches false 0x8F false row = true) ∧
    (∀ row ∈ daaTable, daaMatches true 0x40 false row = false) := by decide

theorem test_daa :
    after (exec .daa { State.reset with a := 0x8F }) (fun t => (t.a, t.ccr.n, t.ccr.z, t.ccr.c)) =
      some (0x95, true, false, false) := by rfl

/-- `$99 + $99`, the largest sum (42_arithmetic.md R260, row 9), by `ADD $50`; and, with the carry in,
by `ADC #$99`. -/
theorem witness_DecimalAddition :
    (let s := { ram [(0x50, 0x99)] with a := 0x99 }
     s.a.toNat = 9 * 16 + 9 ∧ (0x99 : Byte).toNat = 9 * 16 + 9 ∧
       (∃ s1, readOperand (.mem (.dir 0x50)) s = .ok 0x99 s1) ∧
       ∃ t u, exec (.addDir 0x50) s = .next t ∧ exec .daa t = .next u ∧ u.a = 0x98 ∧ u.ccr.c = true) ∧
    (let s := { State.reset with a := 0x99, ccr := ccrOf 001001 }
     s.ccr.c.toNat = 1 ∧
       ∃ t u, exec (.adcImm 0x99) s = .next t ∧ exec .daa t = .next u ∧ u.a = 0x99 ∧ u.ccr.c = true) :=
  ⟨⟨rfl, rfl, ⟨_, rfl⟩, _, _, rfl, rfl, rfl, rfl⟩, rfl, _, _, rfl, rfl, rfl, rfl⟩

/-! ### Logic, bits, shifts -/

/-- B3 #9: `EOR $01,SP`. -/
theorem witness_LogicForms :
    (∃ s1, readOperand (.mem (.sp1 0x01)) (ram [(0x100, 0x81)]) = .ok 0x81 s1) ∧
    readOperand (.imm 0x0F) State.reset = .ok 0x0F State.reset :=
  ⟨⟨_, rfl⟩, rfl⟩

theorem test_eor :
    after (exec (.eorSp1 0x01) { ram [(0x100, 0x81)] with a := 0x01 }) (fun t => (t.a, vhinzc t)) =
      some (0x80, flags 001100) := by rfl

/-- B3 #11: `BIT #$0F` keeps `A`. -/
theorem test_bit :
    after (exec (.bitImm 0x0F) { State.reset with a := 0xF0 }) (fun t => (t.a, vhinzc t)) =
      some (0xF0, flags 001010) := by rfl

theorem witness_BitSetClear (value : Byte → Byte) :
    ReadWrite (ram [(0xFF, 0x7F)]) ((0xFF : Byte).setWidth 16) ((0xFF : Byte).setWidth 16) value :=
  ⟨_, _, _, rfl, rfl⟩

/-- B3 #20 and #26. -/
theorem test_bset :
    after (exec (.bset7 0x50) (ram [(0x50, 0x01)])) (fun t => t.mem) = some [(0x50, 0x81)] := by rfl
theorem test_bclr :
    after (exec (.bclr6 0xFF) (ram [(0xFF, 0x7F)])) (fun t => t.mem) = some [(0xFF, 0x3F)] := by rfl

theorem witness_ShiftsAndRotates (value : Byte → Byte) :
    ReadWrite (ram [(0x100, 0x7F)]) (effectiveAddress (RmwAddr.sp1 0x01).addr (ram [(0x100, 0x7F)]))
      (effectiveAddress (RmwAddr.sp1 0x01).addr (ram [(0x100, 0x7F)])) value :=
  ⟨_, _, _, rfl, rfl⟩

/-- B4 #1, #9, #14, #39 and #29. -/
theorem test_lsl :
    after (exec .lsla { State.reset with a := 0x80 }) (fun t => (t.a, vhinzc t)) =
      some (0x00, flags 101011) := by rfl
theorem test_asr :
    after (exec .asra { State.reset with a := 0xC0, ccr := ccrOf 001001 })
      (fun t => (t.a, vhinzc t)) = some (0xE0, flags 101100) := by rfl
theorem test_lsr :
    after (exec .lsra { State.reset with a := 0x01 }) (fun t => (t.a, vhinzc t)) =
      some (0x00, flags 101011) := by rfl
theorem test_rol :
    after (exec (.rolSp1 0x01) { ram [(0x100, 0x7F)] with ccr := ccrOf 001001 })
      (fun t => (t.byteAt 0x100, vhinzc t)) = some (0xFF, flags 101100) := by rfl
theorem test_ror :
    after (exec .rora { State.reset with ccr := ccrOf 001001 }) (fun t => (t.a, vhinzc t)) =
      some (0x80, flags 101100) := by rfl

/-! ### Branches -/

/-- B5 #7: `BRA *-126` at `$0010` wraps below `$0000`. -/
theorem test_bra :
    after (exec (.bra 0x80) { State.reset with pc := 0x0012 }) (fun t => t.pc) = some 0xFF92 := by rfl

/-- B5.3: `N = 1` with `V = 1` is not less. -/
theorem test_blt :
    after (exec (.blt 0x10) { State.reset with pc := 0x0102, ccr := ccrOf 100100 }) (fun t => t.pc) =
      some 0x0102 := by rfl

theorem witness_BitTestBranches :
    ∃ s1, busRead ((0x50 : Byte).setWidth 16) (ram [(0x50, 0xFE)]) = .ok 0xFE s1 :=
  ⟨_, rfl⟩

/-- B5 #42 and #47. -/
theorem test_brset :
    after (exec (.brset0 0x50 0x10) { ram [(0x50, 0xFE)] with pc := 0x0103, ccr := ccrOf 001001 })
      (fun t => (t.pc, t.ccr.c)) = some (0x0103, false) := by rfl
theorem test_brclr :
    after (exec (.brclr7 0x50 0x80) { ram [(0x50, 0x7F)] with pc := 0x0103 })
      (fun t => (t.pc, t.ccr.c)) = some (0x0083, false) := by rfl

/-- B5 #54: address and index register both wrap; the four forms. -/
theorem witness_CompareBranches :
    (∃ s1, busRead (effectiveAddress (.dir 0xFF) (ram [(0xFF, 1)])) (ram [(0xFF, 1)]) = .ok 1 s1) ∧
    (∃ s1, busRead (effectiveAddress (.sp1 0x01) (ram [(0x100, 1)])) (ram [(0x100, 1)]) = .ok 1 s1) ∧
    (let s := { ram [(0xFE, 0), (0xFFFF, 0)] with h := 0xFF, x := 0xFF }
     (∃ s1, busRead (effectiveAddress (.ix1 0xFF) s) s = .ok 0 s1) ∧
       ∃ s1, busRead (effectiveAddress .ix s) s = .ok 0 s1) :=
  ⟨⟨_, rfl⟩, ⟨_, rfl⟩, ⟨_, rfl⟩, ⟨_, rfl⟩⟩

theorem test_cbeq :
    after (exec (.cbeqIx1Inc 0xFF 0x10)
        { ram [(0xFE, 0x00)] with a := 0x42, h := 0xFF, x := 0xFF, pc := 0x0103 })
      (fun t => (t.pc, t.hx)) = some (0x0103, 0x0000) := by rfl

theorem witness_DecrementBranches :
    ReadWrite (ram [(0x100, 0x01)]) (effectiveAddress (RmwAddr.sp1 0x01).addr (ram [(0x100, 0x01)]))
      (effectiveAddress (RmwAddr.sp1 0x01).addr (ram [(0x100, 0x01)])) (fun v => v - 1) :=
  ⟨_, _, _, rfl, rfl⟩

/-- `DBNZX` from `$00` wraps to `$FF`, leaves `H` and branches (45_branch.md R392). -/
theorem test_dbnzx :
    after (exec (.dbnzx 0x10) { State.reset with h := 0x12, pc := 0x0102 }) (fun t => (t.pc, t.hx)) =
      some (0x0112, 0x12FF) := by rfl

/-! ### Jumps, the stack, control -/

/-- B10 #14: `JSR $1234` at `$FFFE` pushes `$0001`. -/
theorem test_jsr :
    after (exec (.jsrExt 0x1234) { State.reset with pc := 0x0001 }) (fun t => (t.pc, t.sp, t.mem)) =
      some (0x1234, 0x00FD, [(0xFE, 0x00), (0xFF, 0x01)]) := by rfl

theorem test_rts :
    after (exec .rts { ram [(0xFE, 0x12), (0xFF, 0x34)] with sp := 0x00FD }) (fun t => (t.pc, t.sp)) =
      some (0x1234, 0x00FF) := by rfl

/-- A call with `SP = $0000`, and a return with `SP = $FFFE`: both stacks wrap. -/
theorem witness_JumpsAndCalls :
    (let s := { State.reset with sp := 0x0000 }
     (∃ destination, (∃ m, Instr.jsrExt 0x1234 = .jsrOf m ∧ destination = effectiveAddress m.addr)) ∧
     (∃ destination, (∃ rr, Instr.bsr 0x10 = .bsr rr ∧
       destination = fun s : State => s.pc + rr.signExtend 16)) ∧
     ∃ s1 s2, busWrite s.sp (loByte s.pc) s = .ok () s1 ∧
       busWrite (s.sp - 1) (hiByte s.pc) s1 = .ok () s2) ∧
    (let s := { ram [(0x0000, 0x34), (0xFFFF, 0x12)] with sp := 0xFFFE }
     ∃ s1 s2, busRead (s.sp + 1) s = .ok 0x12 s1 ∧ busRead (s.sp + 2) s1 = .ok 0x34 s2) :=
  ⟨⟨⟨_, .ext 0x1234, rfl, rfl⟩, ⟨_, 0x10, rfl, rfl⟩, _, _, rfl, rfl⟩, _, _, rfl, rfl⟩

theorem witness_PushAndPull :
    (let s := { State.reset with sp := 0x0000 }
     ∃ s1, busWrite s.sp s.a s = .ok () s1) ∧
    (let s := { ram [(0x0000, 0x34)] with sp := 0xFFFF }
     ∃ s1, busRead (s.sp + 1) s = .ok 0x34 s1) :=
  ⟨⟨_, rfl⟩, ⟨_, rfl⟩⟩

theorem test_pshh :
    after (exec .pshh { State.reset with h := 0x56 }) (fun t => (t.sp, t.mem)) =
      some (0x00FE, [(0xFF, 0x56)]) := by rfl
theorem test_pulx :
    after (exec .pulx { ram [(0x0000, 0x34)] with sp := 0xFFFF, h := 0x12 })
      (fun t => (t.sp, t.hx)) = some (0x0000, 0x1234) := by rfl

/-- B7 #12, #14, #15 and #18. -/
theorem test_tsx :
    after (exec .tsx { State.reset with sp := 0xFFFF }) (fun t => t.hx) = some 0x0000 := by rfl
theorem test_txs : after (exec .txs State.reset) (fun t => t.sp) = some 0xFFFF := by rfl
theorem test_rsp :
    after (exec .rsp { State.reset with sp := 0x1234 }) (fun t => t.sp) = some 0x12FF := by rfl
theorem test_tax :
    after (exec .tax { State.reset with a := 0x80, h := 0x12, x := 0x34 }) (fun t => t.hx) =
      some 0x1280 := by rfl

/-- B8 #21: `SWI` with `SP = $0002`. -/
def swiWraps : State :=
  { ram [(0xFFFC, 0x12), (0xFFFD, 0x34)] with a := 0x01, x := 0x02, sp := 0x0002, pc := 0x0101 }

theorem test_swi :
    after (exec .swi swiWraps) (fun t => (t.pc, t.sp, t.mem)) =
      some (0x1234, 0xFFFD, [(0x0000, 0x02), (0x0001, 0x01), (0x0002, 0x01), (0xFFFC, 0x12),
        (0xFFFD, 0x34), (0xFFFE, 0x68), (0xFFFF, 0x01)]) := by rfl

theorem witness_SoftwareInterrupt :
    EntryAccesses (id swiWraps) swiWraps 0xFFFC ∧
    EntryAccesses { swiWraps with monitorMode := true } { swiWraps with monitorMode := true } 0xFEFC :=
  ⟨⟨_, _, _, _, _, _, _, _, _, rfl, rfl, rfl, rfl, rfl, rfl, rfl⟩,
    ⟨_, _, _, _, _, _, _, _, _, rfl, rfl, rfl, rfl, rfl, rfl, rfl⟩⟩

/-- B8 #25: `RTI` with `SP = $FFFE`. -/
def rtiWraps : State :=
  { ram [(0x0000, 0x01), (0x0001, 0x02), (0x0002, 0x03), (0x0003, 0x04), (0xFFFF, 0x95)] with
    sp := 0xFFFE }

theorem test_rti :
    after (exec .rti rtiWraps) (fun t => (t.pc, t.a, t.x, t.sp, vhinzc t)) =
      some (0x0304, 0x01, 0x02, 0x0003, flags 110101) := by rfl

theorem witness_ReturnFromInterrupt :
    ∃ s1 s2 s3 s4 s5, busRead (rtiWraps.sp + 1) rtiWraps = .ok 0x95 s1 ∧
      busRead (rtiWraps.sp + 2) s1 = .ok 0x01 s2 ∧ busRead (rtiWraps.sp + 3) s2 = .ok 0x02 s3 ∧
      busRead (rtiWraps.sp + 4) s3 = .ok 0x03 s4 ∧ busRead (rtiWraps.sp + 5) s4 = .ok 0x04 s5 :=
  ⟨_, _, _, _, _, rfl, rfl, rfl, rfl, rfl⟩

theorem witness_SwiThenRti :
    Uncut swiWraps ∧
      ∀ k, k ≤ 4 → regionKind swiWraps.device (swiWraps.sp - BitVec.ofNat 16 k) = .ram :=
  ⟨⟨rfl, rfl⟩, fun _ _ => (isRam_default (s := swiWraps) rfl _).1⟩

/-- B8 #2, #8, #26. -/
theorem test_tap :
    after (exec .tap { State.reset with ccr := ccrOf 111111 }) (fun t => (vhinzc t, t.iWindow)) =
      some (flags 000000, some true) := by rfl
theorem test_tpa :
    after (exec .tpa { State.reset with ccr := ccrOf 001010 }) (fun t => t.a) = some 0x6A := by rfl
theorem test_stop :
    after (exec .stop State.reset) (fun t => (t.run, t.ccr.i, t.iWindow)) =
      some (.stopped, false, none) := by rfl

/-- 70_reset_and_hazards.md R600: `DIV` takes seven cycles, `SWI` nine. -/
theorem test_cycles : Instr.cycles .div = 7 ∧ Instr.cycles .swi = 9 := by decide

/-! ### How the host places an instruction -/

/-- An instruction placed with `withFetchWord` is the one the next step runs. -/
theorem test_fetch_word :
    after (step (State.reset.withFetchWord 8 0x4C)) (fun t => (t.a, t.pc)) = some (0x01, 0x0101) := by
  rfl
theorem test_fetch_word_prebyte :
    after (step ({ State.reset with a := 0x5A }.withFetchWord 16 0x9EE7)) (fun t => (t.pc, t.byteAt 0xFF)) =
      some (0x0103, 0x5A) := by rfl

end Sys2Proof.Tests
end

-- ==== Proofs: what an instruction does to the flags, the window and the run state ====
section
/-!
PROOF. What an instruction does to the CCR, the run state and the window, said once for every
instruction (10_state.md R35, R43, R47). Bus accesses touch none of them (`SameControl`), so each shape
of instruction comes to the flag function it applies; `exec_effect` collects them.
-/

namespace Sys2Proof.Machine

/-! ### Accesses leave the control state -/

/-- What no access touches: the CCR, the run state and the window of `t` are those of `s`; and where
nothing could cut an access short in `s`, nothing can in `t`. -/
def SameControl (s t : State) : Prop :=
  t.ccr = s.ccr ∧ t.run = s.run ∧ t.iWindow = s.iWindow ∧ (Uncut s → Uncut t)

/-- A sequence of accesses that started in `s` completes with the control state of `s`, or something
in `s` could cut it short. -/
def Bus.KeepsControl {α : Type} (s : State) (b : Bus α) : Prop :=
  b.Leads (SameControl s) fun _ => ¬ Uncut s

/-- Accesses keep an uncut state uncut, and none of them is cut short. -/
theorem uncut_kept : Kept Uncut fun _ => False := by
  refine Kept.of_uncut (fun _ hu => hu) ?_ ?_ ?_
  · intro s t ht hu
    rw [ht]
    exact hu
  · intro a s hu
    unfold readCell ioRead drawByte
    split <;> (try split) <;> exact hu
  · intro a v s hu
    unfold writeCell
    split <;> exact hu

theorem Bus.Leads.mono {α : Type} {P P' Q : State → Prop} {b : Bus α} (h : b.Leads P Q)
    (hP : ∀ t, P t → P' t) : b.Leads P' Q := by
  cases b with
  | ok v t => exact hP t h
  | cut r t => exact h

/-- One sequence after another, each with a property of its own. -/
theorem Bus.Leads.andThen {α β : Type} {P R Q : State → Prop} {b : Bus α} {k : α → State → Bus β}
    (h : b.Leads P Q) (hk : ∀ v t, P t → (k v t).Leads R Q) : (b.andThen k).Leads R Q := by
  cases b with
  | ok v t => exact hk v t h
  | cut r t => exact h

namespace SameControl

variable {s t u : State}

theorem refl (s : State) : SameControl s s := ⟨rfl, rfl, rfl, id⟩

theorem ccr (h : SameControl s t) : t.ccr = s.ccr := h.1

/-- The mask set and the window closed on both sides. -/
theorem setMask (h : SameControl s t) :
    SameControl { s with ccr := { s.ccr with i := true }, iWindow := none }
      { t with ccr := { t.ccr with i := true }, iWindow := none } := by
  obtain ⟨hccr, hrun, -, huncut⟩ := h
  exact ⟨by rw [hccr], hrun, rfl, huncut⟩

/-- The same CCR loaded on both sides. -/
theorem setCcr (h : SameControl s t) (c : Ccr) :
    SameControl { s with ccr := c } { t with ccr := c } := by
  obtain ⟨-, hrun, hwindow, huncut⟩ := h
  exact ⟨rfl, hrun, hwindow, huncut⟩

/-- An access leaves every register and keeps an uncut state uncut, so it keeps the control state. -/
theorem access {α : Type} {b : Bus α} (h : SameControl s t)
    (hreg : ∀ v u, b = .ok v u → u.withRegisters t = u)
    (huncut : Uncut t → b.Leads Uncut fun _ => False) : b.KeepsControl s := by
  obtain ⟨hccr, hrun, hwindow, hst⟩ := h
  cases b with
  | ok v u =>
    have hr := hreg v u rfl
    refine ⟨?_, ?_, ?_, fun hs => huncut (hst hs)⟩ <;> rw [← hr] <;> assumption
  | cut r u => exact fun hs => huncut (hst hs)

theorem read (h : SameControl s t) (a : Word) : (busRead a t).KeepsControl s :=
  h.access (fun _ _ hb => (busRead_ok hb).registers) (uncut_kept.read a t)

theorem write (h : SameControl s t) (a : Word) (v : Byte) : (busWrite a v t).KeepsControl s :=
  h.access (fun _ _ hb => (busWrite_ok hb).1.registers) (uncut_kept.write a v t)

theorem readOperand (h : SameControl s t) (op : Operand) : (readOperand op t).KeepsControl s := by
  cases op with
  | imm ii => exact h
  | mem m => exact h.read _

theorem busRead16 (h : SameControl s t) (a : Word) : (busRead16 a t).KeepsControl s :=
  Bus.leads_andThen (h.read _) fun _ _ h1 => Bus.leads_andThen (h1.read _) fun _ _ h2 => h2

theorem busWrite16 (h : SameControl s t) (a v : Word) : (busWrite16 a v t).KeepsControl s :=
  Bus.leads_andThen (h.write _ _) fun _ _ h1 => h1.write _ _

theorem push8 (h : SameControl s t) (v : Byte) : (push8 v t).KeepsControl s :=
  Bus.leads_andThen (h.write _ _) fun _ _ h1 => h1

theorem pull8 (h : SameControl s t) : (pull8 t).KeepsControl s :=
  SameControl.read (t := { t with sp := t.sp + 1 }) h _

theorem pushWord (h : SameControl s t) (w : Word) : (pushWord w t).KeepsControl s :=
  Bus.leads_andThen (h.push8 _) fun _ _ h1 => h1.push8 _

theorem pullWord (h : SameControl s t) : (pullWord t).KeepsControl s :=
  Bus.leads_andThen h.pull8 fun _ _ h1 => Bus.leads_andThen h1.pull8 fun _ _ h2 => h2

end SameControl

/-- Taking an exception sets `I`, closes the window and leaves the other five flags and the run state
(48_control_system.md R461, 60_exceptions.md R530). -/
theorem takeException_keepsControl (vector : Word) (s : State) :
    (takeException vector s).KeepsControl
      { s with ccr := { s.ccr with i := true }, iWindow := none } :=
  have h0 := SameControl.refl s
  (h0.pushWord _).andThen fun _ _ h1 =>
  (h1.push8 _).andThen fun _ _ h2 =>
  (h2.push8 _).andThen fun _ _ h3 =>
  (h3.push8 _).andThen fun _ _ h4 =>
  (h4.setMask.busRead16 _).andThen fun _ _ h5 => h5

/-- Returning from an exception loads some CCR and leaves the run state and the window
(48_control_system.md R462). -/
theorem returnFromException_leads (s : State) :
    (returnFromException s).Leads (fun t => t.run = s.run ∧ t.iWindow = s.iWindow)
      fun _ => ¬ Uncut s :=
  (SameControl.refl s).pull8.andThen fun c _ h1 =>
  (h1.setCcr (loadCcr c)).pull8.andThen fun a t2 h2 =>
  (SameControl.pull8 (t := { t2 with a := a }) h2).andThen fun x t3 h3 =>
  (SameControl.pullWord (t := { t3 with x := x }) h3).andThen
    fun _ _ ⟨_, hrun, hwindow, _⟩ => ⟨hrun, hwindow⟩

/-! ### What an instruction comes to -/

/-- The start of an instruction: the machine runs and the window is closed. -/
def AtInstruction (s : State) : Prop := s.run = .running ∧ s.iWindow = none

/-- The part of the invariant that is not about memory (10_state.md R47, 60_exceptions.md R543). -/
def ControlInvariant (s : State) : Prop :=
  (s.iWindow = none ∨ s.iWindow = some (!s.ccr.i)) ∧
  (s.run ≠ .running → s.ccr.i = false ∧ s.iWindow = none)

theorem invariant_iff (s : State) : Invariant s ↔ s.mem.wf = true ∧ ControlInvariant s := Iff.rfl

/-- A running machine with a closed window meets it. -/
theorem AtInstruction.controlInvariant {s : State} (h : AtInstruction s) : ControlInvariant s :=
  ⟨.inl h.2, fun hr => absurd h.1 hr⟩

/-- An instruction with these marks that started in `s` may complete in `t`. -/
def Done (m : FlagMarks) (s t : State) : Prop :=
  m.allow s.ccr t.ccr = true ∧ (AtInstruction s → ControlInvariant t)

/-- An instruction with these marks that started in `s` comes to this result: it completes as the marks
say, or something in `s` could cut it short. -/
def Effect (m : FlagMarks) (s : State) (r : Result) : Prop := Ends (Done m s) (fun _ => ¬ Uncut s) r

theorem Ends.of_leads {P Q : State → Prop} {b : Bus Unit} (h : b.Leads P Q) :
    Ends P Q (finish b) := by
  cases b with
  | ok v t => exact .inl ⟨t, h, rfl⟩
  | cut r t => exact .inr ⟨r, t, h, rfl⟩

theorem Ends.mono {P P' Q : State → Prop} {r : Result} (h : Ends P Q r) (hP : ∀ t, P t → P' t) :
    Ends P' Q r := by
  obtain ⟨t, ht, rfl⟩ | ⟨source, t, ht, rfl⟩ := h
  · exact .inl ⟨t, hP t ht, rfl⟩
  · exact .inr ⟨source, t, ht, rfl⟩

/-- Where nothing could cut an instruction short, it has completed. -/
theorem Ends.of_uncut {P : State → Prop} {s t : State} (h : Ends P (fun _ => ¬ Uncut s) (.next t))
    (hu : Uncut s) : P t := by
  obtain ⟨t', ht', heq⟩ | ⟨_, _, hcut, _⟩ := h
  · cases heq
    exact ht'
  · exact absurd hu hcut

section
variable {m : FlagMarks} {s t u : State}

/-- A state with the run state and the window of the start. -/
theorem Done.of_eq (hm : m.allow s.ccr t.ccr = true) (hrun : t.run = s.run)
    (hwindow : t.iWindow = s.iWindow) : Done m s t :=
  ⟨hm, fun ⟨hr, hw⟩ => AtInstruction.controlInvariant ⟨hrun.trans hr, hwindow.trans hw⟩⟩

/-- The end of an instruction after its accesses: the CCR it sets there obeys the marks. -/
theorem SameControl.done (h : SameControl s t) (hm : m.allow t.ccr u.ccr = true)
    (hrun : u.run = t.run) (hwindow : u.iWindow = t.iWindow) : Done m s u := by
  obtain ⟨hccr, hr, hw, -⟩ := h
  exact .of_eq (hccr ▸ hm) (hrun.trans hr) (hwindow.trans hw)

/-- The write of `MOV` and the flags of the byte moved (41_load_store_move.md R187). -/
theorem SameControl.moveTo (h : SameControl s t) (hf : ∀ c v, m.allow c (moveFlags c v) = true)
    (dst : Word) (v : Byte) : (moveTo dst v t).Leads (Done m s) fun _ => ¬ Uncut s :=
  (h.write dst v).andThen fun _ _ h1 => h1.done (hf _ _) rfl rfl

namespace Effect

/-- An instruction without accesses. -/
theorem next (hm : m.allow s.ccr t.ccr = true) (hrun : t.run = s.run := by rfl)
    (hwindow : t.iWindow = s.iWindow := by rfl) : Effect m s (.next t) :=
  .inl ⟨t, .of_eq hm hrun hwindow, rfl⟩

/-- A sequence of accesses and then a change of registers that obeys the marks. -/
theorem finish {α : Type} {b : Bus α} {f : α → State → State} (hb : b.KeepsControl s)
    (hm : ∀ v t, m.allow t.ccr (f v t).ccr = true)
    (hrun : ∀ v t, (f v t).run = t.run := by intros; rfl)
    (hwindow : ∀ v t, (f v t).iWindow = t.iWindow := by intros; rfl) :
    Effect m s (finish (b.andThen fun v t => .ok () (f v t))) :=
  .of_leads (hb.andThen fun v t ht => ht.done (hm v t) (hrun v t) (hwindow v t))

/-! The shapes of Sys2Proof/Machine/Operands.lean, and those of single families. -/

theorem accumulate {f : Byte → Byte → Ccr → Byte × Ccr} (hf : ∀ a v c, m.allow c (f a v c).2 = true)
    (op : Operand) : Effect m s (accumulate f op s) :=
  finish ((SameControl.refl s).readOperand op) (fun _ _ => hf _ _ _)

/-- `AND`, `ORA` and `EOR`: the flags of a move of the result. -/
theorem accumulateMove {g : Byte → Byte → Byte} (hf : ∀ c v, m.allow c (moveFlags c v) = true)
    (op : Operand) :
    Effect m s (Machine.accumulate (fun a v c => (g a v, moveFlags c (g a v))) op s) :=
  accumulate (fun _ _ _ => hf _ _) op

theorem compareWith {f : Byte → Byte → Ccr → Ccr} (hf : ∀ r v c, m.allow c (f r v c) = true)
    (register : State → Byte) (op : Operand) : Effect m s (compareWith register f op s) :=
  finish ((SameControl.refl s).readOperand op) (fun _ _ => hf _ _ _)

theorem modifyA {f : Byte → Ccr → Byte × Ccr} (hf : ∀ c v, m.allow c (f v c).2 = true) :
    Effect m s (modifyA f s) :=
  next (hf _ _)

theorem modifyX {f : Byte → Ccr → Byte × Ccr} (hf : ∀ c v, m.allow c (f v c).2 = true) :
    Effect m s (modifyX f s) :=
  next (hf _ _)

theorem modifyMemory {f : Byte → Ccr → Byte × Ccr} (hf : ∀ c v, m.allow c (f v c).2 = true)
    (ea : Addr) : Effect m s (modifyMemory f ea s) :=
  .of_leads (((SameControl.refl s).read _).andThen fun v t h1 =>
    (h1.write _ _).andThen fun _ u h2 =>
      h2.done (by rw [h2.ccr, ← h1.ccr]; exact hf t.ccr v) rfl rfl)

theorem setBit (hf : ∀ c, m.allow c c = true) (n : Nat) (dd : Byte) : Effect m s (setBit n dd s) :=
  modifyMemory (fun c _ => hf c) _

theorem clearBit (hf : ∀ c, m.allow c c = true) (n : Nat) (dd : Byte) :
    Effect m s (clearBit n dd s) :=
  modifyMemory (fun c _ => hf c) _

theorem loadA (hf : ∀ c v, m.allow c (moveFlags c v) = true) (op : Operand) :
    Effect m s (loadA op s) :=
  finish ((SameControl.refl s).readOperand op) (fun _ _ => hf _ _)

theorem loadX (hf : ∀ c v, m.allow c (moveFlags c v) = true) (op : Operand) :
    Effect m s (loadX op s) :=
  finish ((SameControl.refl s).readOperand op) (fun _ _ => hf _ _)

theorem storeByte (hf : ∀ c v, m.allow c (moveFlags c v) = true) (ea : Addr) (v : Byte) :
    Effect m s (storeByte ea v s) :=
  finish ((SameControl.refl s).write _ _) (fun _ _ => hf _ _)

theorem testMemory (hf : ∀ c v, m.allow c (moveFlags c v) = true) (ea : Addr) :
    Effect m s (testMemory ea s) :=
  finish ((SameControl.refl s).read _) (fun _ _ => hf _ _)

theorem clearMemory (hf : ∀ c, m.allow c (clearFlags c) = true) (ea : Addr) :
    Effect m s (clearMemory ea s) :=
  finish ((SameControl.refl s).write _ _) (fun _ _ => hf _)

/-- A branch without accesses. -/
theorem branchIf (hm : m.allow s.ccr t.ccr = true) (hrun : t.run = s.run)
    (hwindow : t.iWindow = s.iWindow) (condition : Bool) (rr : Byte) :
    Effect m s (.next (branchIf condition rr t)) :=
  next (by rwa [branchIf_ccr]) (by rwa [branchIf_run]) (by rwa [branchIf_iWindow])

/-- A sequence of accesses, a change of registers that obeys the marks, and a branch. -/
theorem thenBranch {α : Type} {b : Bus α} {condition : α → State → Bool} {rr : Byte}
    {f : α → State → State} (hb : b.KeepsControl s)
    (hm : ∀ v t, m.allow t.ccr (f v t).ccr = true)
    (hrun : ∀ v t, (f v t).run = t.run := by intros; rfl)
    (hwindow : ∀ v t, (f v t).iWindow = t.iWindow := by intros; rfl) :
    Effect m s
      (Machine.finish (b.andThen fun v t => .ok () (Machine.branchIf (condition v t) rr (f v t)))) :=
  finish hb (fun v t => by rw [branchIf_ccr]; exact hm v t)
    (fun v t => by rw [branchIf_run]; exact hrun v t)
    fun v t => by rw [branchIf_iWindow]; exact hwindow v t

theorem bitBranch (hf : ∀ c carry, m.allow c { c with c := carry } = true) (n : Nat) (w : Bool)
    (dd rr : Byte) : Effect m s (bitBranch n w dd rr s) :=
  thenBranch ((SameControl.refl s).read _) (fun _ _ => hf _ _)

theorem compareBranch (hf : ∀ c, m.allow c c = true) (ea : Addr) (rr : Byte) :
    Effect m s (compareBranch ea rr s) :=
  thenBranch (f := fun _ t => t) ((SameControl.refl s).read _) (fun _ _ => hf _)

theorem compareBranchInc (hf : ∀ c, m.allow c c = true) (ea : Addr) (rr : Byte) :
    Effect m s (compareBranchInc ea rr s) :=
  thenBranch (f := fun _ t => postInc t) ((SameControl.refl s).read _) (fun _ _ => hf _)

theorem decrementBranch (hf : ∀ c, m.allow c c = true) (ea : Addr) (rr : Byte) :
    Effect m s (decrementBranch ea rr s) :=
  .of_leads (((SameControl.refl s).read _).andThen fun _ _ h1 =>
    (h1.write _ _).andThen fun _ _ h2 =>
      h2.done (by rw [branchIf_ccr]; exact hf _) (branchIf_run ..) (branchIf_iWindow ..))

theorem callSubroutine (hf : ∀ c, m.allow c c = true) (destination : Word) :
    Effect m s (callSubroutine destination s) :=
  finish ((SameControl.refl s).pushWord _) (fun _ _ => hf _)

end Effect
end

/-! ### The flag functions obey their rows of the summary (10_state.md R35) -/

section
variable (c : Ccr)

theorem allow_same : FlagMarks.allow ⟨.keep, .keep, .keep, .keep, .keep, .keep⟩ c c = true := by
  simp [FlagMarks.allow, FlagMark.allows]

theorem allow_any (c' : Ccr) : FlagMarks.allow ⟨.any, .any, .any, .any, .any, .any⟩ c c' = true :=
  rfl

theorem allow_clearI :
    FlagMarks.allow ⟨.keep, .keep, .clear, .keep, .keep, .keep⟩ c { c with i := false } = true := by
  simp [FlagMarks.allow, FlagMark.allows]

theorem allow_setI :
    FlagMarks.allow ⟨.keep, .keep, .set, .keep, .keep, .keep⟩ c { c with i := true } = true := by
  simp [FlagMarks.allow, FlagMark.allows]

theorem allow_clearC :
    FlagMarks.allow ⟨.keep, .keep, .keep, .keep, .keep, .clear⟩ c { c with c := false } = true := by
  simp [FlagMarks.allow, FlagMark.allows]

theorem allow_setC :
    FlagMarks.allow ⟨.keep, .keep, .keep, .keep, .keep, .set⟩ c { c with c := true } = true := by
  simp [FlagMarks.allow, FlagMark.allows]

theorem allow_anyC (carry : Bool) :
    FlagMarks.allow ⟨.keep, .keep, .keep, .keep, .keep, .any⟩ c { c with c := carry } = true := by
  simp [FlagMarks.allow, FlagMark.allows]

/-- `MUL` clears the half carry and the carry (42_arithmetic.md R240). -/
theorem allow_multiply :
    FlagMarks.allow ⟨.keep, .clear, .keep, .keep, .keep, .clear⟩ c
      { c with h := false, c := false } = true := by
  simp [FlagMarks.allow, FlagMark.allows]

theorem allow_add8 (a v : Byte) (carry : Bool) :
    FlagMarks.allow ⟨.any, .any, .keep, .any, .any, .any⟩ c (add8 c a v carry).2 = true := by
  simp [FlagMarks.allow, FlagMark.allows, add8]

theorem allow_sub8 (a v : Byte) (borrow : Bool) :
    FlagMarks.allow ⟨.any, .keep, .keep, .any, .any, .any⟩ c (sub8 c a v borrow).2 = true := by
  simp [FlagMarks.allow, FlagMark.allows, sub8]

theorem allow_sub16 (a v : Word) :
    FlagMarks.allow ⟨.any, .keep, .keep, .any, .any, .any⟩ c (sub16 c a v) = true := by
  simp [FlagMarks.allow, FlagMark.allows, sub16]

theorem allow_negate (v : Byte) :
    FlagMarks.allow ⟨.any, .keep, .keep, .any, .any, .any⟩ c (negate v c).2 = true := by
  simp [FlagMarks.allow, FlagMark.allows, negate]

theorem allow_shiftFlags (r : Byte) (out : Bool) :
    FlagMarks.allow ⟨.any, .keep, .keep, .any, .any, .any⟩ c (shiftFlags c r out) = true := by
  simp [FlagMarks.allow, FlagMark.allows, shiftFlags]

theorem allow_shiftLeft (v : Byte) :
    FlagMarks.allow ⟨.any, .keep, .keep, .any, .any, .any⟩ c (shiftLeft v c).2 = true :=
  allow_shiftFlags ..

theorem allow_arithmeticShiftRight (v : Byte) :
    FlagMarks.allow ⟨.any, .keep, .keep, .any, .any, .any⟩ c (arithmeticShiftRight v c).2 = true :=
  allow_shiftFlags ..

theorem allow_rotateLeft (v : Byte) :
    FlagMarks.allow ⟨.any, .keep, .keep, .any, .any, .any⟩ c (rotateLeft v c).2 = true :=
  allow_shiftFlags ..

theorem allow_rotateRight (v : Byte) :
    FlagMarks.allow ⟨.any, .keep, .keep, .any, .any, .any⟩ c (rotateRight v c).2 = true :=
  allow_shiftFlags ..

/-- A zero enters bit 7, so `N` is clear (44_shift_rotate.md R323). -/
theorem allow_logicalShiftRight (v : Byte) :
    FlagMarks.allow ⟨.any, .keep, .keep, .clear, .any, .any⟩ c (logicalShiftRight v c).2 = true := by
  simp [FlagMarks.allow, FlagMark.allows, logicalShiftRight, shiftFlags, bit7]

theorem allow_increment (v : Byte) :
    FlagMarks.allow ⟨.any, .keep, .keep, .any, .any, .keep⟩ c (increment v c).2 = true := by
  simp [FlagMarks.allow, FlagMark.allows, increment]

theorem allow_decrement (v : Byte) :
    FlagMarks.allow ⟨.any, .keep, .keep, .any, .any, .keep⟩ c (decrement v c).2 = true := by
  simp [FlagMarks.allow, FlagMark.allows, decrement]

theorem allow_moveFlags (r : Byte) :
    FlagMarks.allow ⟨.clear, .keep, .keep, .any, .any, .keep⟩ c (moveFlags c r) = true := by
  simp [FlagMarks.allow, FlagMark.allows, moveFlags]

theorem allow_moveFlags16 (r : Word) :
    FlagMarks.allow ⟨.clear, .keep, .keep, .any, .any, .keep⟩ c (moveFlags16 c r) = true := by
  simp [FlagMarks.allow, FlagMark.allows, moveFlags16]

theorem allow_complement (v : Byte) :
    FlagMarks.allow ⟨.clear, .keep, .keep, .any, .any, .set⟩ c (complement v c).2 = true := by
  simp [FlagMarks.allow, FlagMark.allows, complement, moveFlags]

theorem allow_clearFlags :
    FlagMarks.allow ⟨.clear, .keep, .keep, .clear, .set, .keep⟩ c (clearFlags c) = true := by
  simp [FlagMarks.allow, FlagMark.allows, clearFlags]

end

/-! ### Instructions that do more to the control state -/

/-- `TAP`, `CLI` and `SEI`: the window opens exactly when `I` changes, with the complement of the new
mask in it (60_exceptions.md R513). -/
theorem effect_openWindow {m : FlagMarks} {s : State} {c : Ccr} (hm : m.allow s.ccr c = true) :
    Effect m s (.next (openWindow s.ccr.i { s with ccr := c })) := by
  refine .inl ⟨_, ⟨by rwa [openWindow_ccr], fun ⟨hrun, hwindow⟩ => ⟨?_, fun hr => ?_⟩⟩, rfl⟩
  · rw [openWindow_ccr]
    unfold openWindow
    split
    · exact .inl hwindow
    · rename_i hne
      exact .inr (congrArg some (Bool.eq_not.mpr (Ne.symm hne)))
  · rw [openWindow_run] at hr
    exact absurd hrun hr

/-- `STOP` and `WAIT` clear the mask and open no window (60_exceptions.md R540, R541). -/
theorem effect_lowPower (s : State) (r : Run) :
    Effect ⟨.keep, .keep, .clear, .keep, .keep, .keep⟩ s
      (.next { s with ccr := { s.ccr with i := false }, run := r }) :=
  .inl ⟨{ s with ccr := { s.ccr with i := false }, run := r }, ⟨allow_clearI s.ccr,
    fun ⟨_, hwindow⟩ => ⟨.inl hwindow, fun _ => ⟨rfl, hwindow⟩⟩⟩, rfl⟩

theorem effect_swi (s : State) :
    Effect ⟨.keep, .keep, .set, .keep, .keep, .keep⟩ s (execSwi s) :=
  .of_leads <| Bus.Leads.mono (takeException_keepsControl swiVector s)
    fun _ ⟨hccr, hrun, hwindow, _⟩ =>
    ⟨hccr ▸ allow_setI s.ccr,
      fun ⟨hr, _⟩ => AtInstruction.controlInvariant ⟨hrun.trans hr, hwindow⟩⟩

theorem effect_rti (s : State) : Effect ⟨.any, .any, .any, .any, .any, .any⟩ s (execRti s) :=
  .of_leads <| Bus.Leads.mono (returnFromException_leads s)
    fun _ ⟨hrun, hwindow⟩ => .of_eq (allow_any _ _) hrun hwindow

/-- `DIV` sets `Z` and `C` only, whether or not the quotient fits (42_arithmetic.md R241). -/
theorem effect_div (s : State) :
    Effect ⟨.keep, .keep, .keep, .keep, .any, .any⟩ s (execDiv s) := by
  unfold execDiv
  dsimp only
  split
  · exact .next (by simp [FlagMarks.allow, FlagMark.allows])
  · exact .next (by simp [FlagMarks.allow, FlagMark.allows])

/-- `DAA` leaves `H` and `I`, whether or not a row of the table matches (42_arithmetic.md R260, R262). -/
theorem effect_daa (s : State) :
    Effect ⟨.any, .keep, .keep, .any, .any, .any⟩ s (execDaa s) := by
  unfold execDaa
  split
  · exact .next (by simp [FlagMarks.allow, FlagMark.allows])
  · exact .next (by simp [FlagMarks.allow, FlagMark.allows])

/-! ### Every instruction -/

/-- Whatever the instruction, it completes as its row of the flag-write summary says and, started in a
running machine with a closed window, with the window and the run state the invariant asks for; or
something could cut it short. -/
theorem exec_effect (i : Instr) (s : State) : Effect (flagMarks i) s (exec i s) := by
  have h := SameControl.refl s
  unfold exec
  cases i
  case addImm | addDir | addExt | addIx2 | addIx1 | addSp2 | addSp1 | addIx | adcImm | adcDir |
      adcExt | adcIx2 | adcIx1 | adcSp2 | adcSp1 | adcIx =>
    exact .accumulate (fun _ _ _ => allow_add8 ..) _
  case subImm | subDir | subExt | subIx2 | subIx1 | subSp2 | subSp1 | subIx | sbcImm | sbcDir |
      sbcExt | sbcIx2 | sbcIx1 | sbcSp2 | sbcSp1 | sbcIx =>
    exact .accumulate (fun _ _ _ => allow_sub8 ..) _
  case andImm | andDir | andExt | andIx2 | andIx1 | andSp2 | andSp1 | andIx | oraImm | oraDir |
      oraExt | oraIx2 | oraIx1 | oraSp2 | oraSp1 | oraIx | eorImm | eorDir | eorExt | eorIx2 |
      eorIx1 | eorSp2 | eorSp1 | eorIx =>
    exact .accumulateMove allow_moveFlags _
  case cmpImm | cmpDir | cmpExt | cmpIx2 | cmpIx1 | cmpSp2 | cmpSp1 | cmpIx | cpxImm | cpxDir |
      cpxExt | cpxIx2 | cpxIx1 | cpxSp2 | cpxSp1 | cpxIx =>
    exact .compareWith (fun _ _ _ => allow_sub8 ..) _ _
  case bitImm | bitDir | bitExt | bitIx2 | bitIx1 | bitSp2 | bitSp1 | bitIx =>
    exact .compareWith (fun _ _ _ => allow_moveFlags ..) _ _
  case cphxImm => exact .next (allow_sub16 ..)
  case cphxDir => exact .finish (h.busRead16 _) (fun _ _ => allow_sub16 ..)
  case ldaImm | ldaDir | ldaExt | ldaIx2 | ldaIx1 | ldaSp2 | ldaSp1 | ldaIx =>
    exact .loadA allow_moveFlags _
  case ldxImm | ldxDir | ldxExt | ldxIx2 | ldxIx1 | ldxSp2 | ldxSp1 | ldxIx =>
    exact .loadX allow_moveFlags _
  case staDir | staExt | staIx2 | staIx1 | staSp2 | staSp1 | staIx | stxDir | stxExt | stxIx2 |
      stxIx1 | stxSp2 | stxSp1 | stxIx =>
    exact .storeByte allow_moveFlags _ _
  case tstDir | tstIx1 | tstSp1 | tstIx => exact .testMemory allow_moveFlags _
  case tsta | tstx => exact .next (allow_moveFlags ..)
  case ldhxImm => exact .next (allow_moveFlags16 ..)
  case ldhxDir => exact .finish (h.busRead16 _) (fun _ _ => allow_moveFlags16 ..)
  case sthx => exact .finish (h.busWrite16 _ _) (fun _ _ => allow_moveFlags16 ..)
  case movImmDir => exact .of_leads (h.moveTo allow_moveFlags _ _)
  case movDirDir => exact .of_leads ((h.read _).andThen fun _ _ h1 => h1.moveTo allow_moveFlags _ _)
  case movDirIxInc | movIxIncDir =>
    exact .of_leads ((h.read _).andThen fun _ _ h1 =>
      (h1.moveTo allow_moveFlags _ _).andThen fun _ _ hd => hd)
  case clrDir | clrIx1 | clrSp1 | clrIx => exact .clearMemory allow_clearFlags _
  case clra | clrx | clrh => exact .next (allow_clearFlags _)
  case negDir | negIx1 | negSp1 | negIx => exact .modifyMemory allow_negate _
  case comDir | comIx1 | comSp1 | comIx => exact .modifyMemory allow_complement _
  case lsrDir | lsrIx1 | lsrSp1 | lsrIx => exact .modifyMemory allow_logicalShiftRight _
  case rorDir | rorIx1 | rorSp1 | rorIx => exact .modifyMemory allow_rotateRight _
  case asrDir | asrIx1 | asrSp1 | asrIx => exact .modifyMemory allow_arithmeticShiftRight _
  case lslDir | lslIx1 | lslSp1 | lslIx => exact .modifyMemory allow_shiftLeft _
  case rolDir | rolIx1 | rolSp1 | rolIx => exact .modifyMemory allow_rotateLeft _
  case decDir | decIx1 | decSp1 | decIx => exact .modifyMemory allow_decrement _
  case incDir | incIx1 | incSp1 | incIx => exact .modifyMemory allow_increment _
  case bset0 | bset1 | bset2 | bset3 | bset4 | bset5 | bset6 | bset7 => exact .setBit allow_same _ _
  case bclr0 | bclr1 | bclr2 | bclr3 | bclr4 | bclr5 | bclr6 | bclr7 =>
    exact .clearBit allow_same _ _
  case nega => exact .modifyA allow_negate
  case negx => exact .modifyX allow_negate
  case coma => exact .modifyA allow_complement
  case comx => exact .modifyX allow_complement
  case lsra => exact .modifyA allow_logicalShiftRight
  case lsrx => exact .modifyX allow_logicalShiftRight
  case rora => exact .modifyA allow_rotateRight
  case rorx => exact .modifyX allow_rotateRight
  case asra => exact .modifyA allow_arithmeticShiftRight
  case asrx => exact .modifyX allow_arithmeticShiftRight
  case lsla => exact .modifyA allow_shiftLeft
  case lslx => exact .modifyX allow_shiftLeft
  case rola => exact .modifyA allow_rotateLeft
  case rolx => exact .modifyX allow_rotateLeft
  case deca => exact .modifyA allow_decrement
  case decx => exact .modifyX allow_decrement
  case inca => exact .modifyA allow_increment
  case incx => exact .modifyX allow_increment
  case brset0 | brset1 | brset2 | brset3 | brset4 | brset5 | brset6 | brset7 | brclr0 | brclr1 |
      brclr2 | brclr3 | brclr4 | brclr5 | brclr6 | brclr7 =>
    exact .bitBranch allow_anyC _ _ _ _
  case bra | brn | bhi | bls | bcc | bcs | bne | beq | bhcc | bhcs | bpl | bmi | bmc | bms | bil |
      bih | bge | blt | bgt | ble | cbeqa | cbeqx =>
    exact .branchIf (allow_same _) rfl rfl _ _
  case dbnza rr => exact .branchIf (t := { s with a := s.a - 1 }) (allow_same _) rfl rfl _ rr
  case dbnzx rr => exact .branchIf (t := { s with x := s.x - 1 }) (allow_same _) rfl rfl _ rr
  case cbeqDir | cbeqSp1 => exact .compareBranch allow_same _ _
  case cbeqIx1Inc | cbeqIxInc => exact .compareBranchInc allow_same _ _
  case dbnzDir | dbnzIx1 | dbnzIx | dbnzSp1 => exact .decrementBranch allow_same _ _
  case jsrDir | jsrExt | jsrIx2 | jsrIx1 | jsrIx | bsr => exact .callSubroutine allow_same _
  case psha | pshh | pshx => exact .finish (h.write _ _) (fun _ _ => allow_same _)
  case pula | pulh | pulx => exact .finish h.pull8 (fun _ _ => allow_same _)
  case rts => exact .finish h.pullWord (fun _ _ => allow_same _)
  case swi => exact effect_swi s
  case rti => exact effect_rti s
  case div => exact effect_div s
  case daa => exact effect_daa s
  case tap => exact effect_openWindow (allow_any _ _)
  case cli => exact effect_openWindow (allow_clearI _)
  case sei => exact effect_openWindow (allow_setI _)
  case stop | wait => exact effect_lowPower s _
  case mul => exact .next (allow_multiply _)
  case clc => exact .next (allow_clearC _)
  case sec => exact .next (allow_setC _)
  case ais | aix | jmpDir | jmpExt | jmpIx2 | jmpIx1 | jmpIx | nsa | tpa | txs | tsx | tax | rsp |
      nop | txa =>
    exact .next (allow_same _)

end Sys2Proof.Machine
end

-- ==== Proofs: fetching ====
section
/-!
PROOF. What fetching an instruction can change (30_encoding.md R102, 60_exceptions.md R505): `PC`, the
record of the bytes just written, and the environment's side of its reads, and nothing else.
-/

namespace Sys2Proof.Machine

/-- A fetch changes nothing of the machine but `PC`, the record of the bytes the last instruction wrote
and what a read changes (`ReadFrame`). -/
def FetchFrame (s t : State) : Prop :=
  t = { s with
    pc := t.pc, recent := t.recent, resetIn := t.resetIn, ioIn := t.ioIn, ioLog := t.ioLog
    draws := t.draws }

namespace FetchFrame

variable {s t u : State}

theorem refl (s : State) : FetchFrame s s := rfl

theorem trans (h1 : FetchFrame s t) (h2 : FetchFrame t u) : FetchFrame s u := by
  unfold FetchFrame
  rw [h2, h1]

theorem read (h : FetchFrame s t) (a : Word) : (busRead a t).Holds (FetchFrame s) :=
  busRead_holds h fun u hu => h.trans (by unfold FetchFrame; rw [hu.1])

theorem fetch8 (h : FetchFrame s t) : (fetch8 t).Holds (FetchFrame s) :=
  Bus.holds_andThen (h.read _) fun _ _ h1 => h1.trans rfl

theorem fetchOpcode (h : FetchFrame s t) : (fetchOpcode t).Holds (FetchFrame s) := by
  refine Bus.holds_andThen h.fetch8 fun b u h1 => ?_
  split
  · exact h1.trans rfl
  · exact h1.trans rfl

theorem fetchOperands (h : FetchFrame s t) (form : Form) :
    (fetchOperands form t).Holds (FetchFrame s) := by
  cases form with
  | inherent i => exact h
  | oneByte make => exact Bus.holds_andThen h.fetch8 fun _ _ h1 => h1
  | twoBytes make | oneWord make =>
    exact Bus.holds_andThen h.fetch8 fun _ _ h1 => Bus.holds_andThen h1.fetch8 fun _ _ h2 => h2

theorem fetchInstr (h : FetchFrame s t) : (fetchInstr t).Holds (FetchFrame s) := by
  refine Bus.holds_andThen h.fetchOpcode fun op u h1 => ?_
  split
  · refine Bus.holds_andThen h1.fetch8 fun op2 v h2 => ?_
    split
    · exact h2.fetchOperands _
    · exact h2
  · split
    · exact h1.fetchOperands _
    · exact h1

end FetchFrame

/-- Whatever is fetched, completed or cut short, only what `FetchFrame` says has changed. -/
theorem fetchInstr_frame (s : State) : (fetchInstr s).Holds (FetchFrame s) :=
  (FetchFrame.refl s).fetchInstr

end Sys2Proof.Machine
end

-- ==== Proofs: the invariant ====
section
/-!
PROOF. Every step keeps the invariant of the machine (10_state.md R47, 60_exceptions.md R513, R543): it
holds after every reset, and after every instruction and interrupt entry that starts in a running
machine with a closed window and canonical memory (`Ready`), which is how `step` starts them.
-/

namespace Sys2Proof.Machine

/-- Memory is in canonical form, the machine runs and the window is closed. -/
def Ready (s : State) : Prop := s.mem.wf = true ∧ AtInstruction s

/-- Every next state of a result satisfies the invariant. -/
def Lands (r : Result) : Prop := ∀ t, r = .next t → Invariant t

theorem lands_next {t : State} (h : Invariant t) : Lands (.next t) := by
  rintro _ ⟨⟩
  exact h

theorem lands_refused (reason : Refusal) : Lands (.refused reason) := by
  rintro _ ⟨⟩

/-- Accesses and changes of registers keep the canonical form of memory. -/
theorem memory_kept : Kept (fun s => s.mem.wf = true) fun s => s.mem.wf = true := by
  refine Kept.of_holds ?_ ?_ ?_
  · intro s t ht hs
    rw [ht]
    exact hs
  · intro a s hs
    exact busRead_holds hs fun t ht => by rw [ht.mem]; exact hs
  · intro a v s hs
    exact busWrite_holds hs fun t ht => busWrite_wf ht hs

theorem resetCpu_invariant (r : ResetSource) {s : State} (h : s.mem.wf = true) :
    Invariant (resetCpu r s) := by
  obtain ⟨-, -, -, hrun, hwindow, hmem, -⟩ := resetCpu_forced r s
  exact (invariant_iff _).mpr ⟨by rw [hmem]; exact memoryAfterReset_wf r s h,
    AtInstruction.controlInvariant ⟨hrun, hwindow⟩⟩

/-- A result whose memory is canonical and whose control state is as it should be where it completes. -/
theorem lands_of_ends {Q : State → Prop} {r : Result}
    (hmem : Ends (fun t => t.mem.wf = true) (fun t => t.mem.wf = true) r)
    (hcontrol : Ends ControlInvariant Q r) : Lands r := by
  obtain ⟨t, ht, rfl⟩ | ⟨source, u, hu, rfl⟩ := hmem
  · refine lands_next ((invariant_iff t).mpr ⟨ht, ?_⟩)
    obtain ⟨t', ht', heq⟩ | ⟨source, u, -, heq⟩ := hcontrol
    · cases heq
      exact ht'
    · cases heq
      obtain ⟨-, -, -, hrun, hwindow, -⟩ := resetCpu_forced source u
      exact AtInstruction.controlInvariant ⟨hrun, hwindow⟩
  · exact lands_next (resetCpu_invariant source hu)

theorem Effect.control {m : FlagMarks} {s : State} {r : Result} (h : Effect m s r)
    (hs : AtInstruction s) : Ends ControlInvariant (fun _ => ¬ Uncut s) r :=
  Ends.mono h fun _ ⟨_, hcontrol⟩ => hcontrol hs

theorem exec_lands (i : Instr) {s : State} (h : Ready s) : Lands (exec i s) :=
  lands_of_ends (exec_ends memory_kept i h.1) ((exec_effect i s).control h.2)

/-- An interrupt entry sets `I`, closes the window and leaves the other flags and the run state
(60_exceptions.md R530). -/
theorem interruptEntry_ends (n : Nat) (s : State) :
    Ends (SameControl { s with ccr := { s.ccr with i := true }, iWindow := none, recent := [] })
      (fun _ => ¬ Uncut s) (finish (interruptEntry n s)) :=
  .of_leads (takeException_keepsControl _ { s with recent := [] })

/-- Interrupt entry closes the window, so it needs only canonical memory and a running machine. -/
theorem interruptEntry_lands (n : Nat) {s : State} (hmem : s.mem.wf = true)
    (hrunning : s.run = .running) : Lands (finish (interruptEntry n s)) :=
  lands_of_ends (memory_kept.finish (memory_kept.takeException (s := { s with recent := [] }) _ hmem))
    ((interruptEntry_ends n s).mono fun _ ⟨_, hrun, hwindow, _⟩ =>
      AtInstruction.controlInvariant ⟨hrun.trans hrunning, hwindow⟩)

theorem illegalOpcode_lands (bytes : List Byte) {s : State} (h : s.mem.wf = true) :
    Lands (illegalOpcode bytes s) := by
  obtain ⟨source, -, heq⟩ | ⟨-, heq⟩ | ⟨-, -, heq⟩ := illegalOpcode_cases bytes s
  · exact heq ▸ lands_next (resetCpu_invariant source h)
  · exact heq ▸ lands_next (resetCpu_invariant _ h)
  · exact heq ▸ lands_refused _

theorem FetchFrame.ready {s t : State} (h : FetchFrame s t) (hs : Ready s) : Ready t := by
  rw [h]
  exact hs

theorem fetchInstr_ready {s : State} (h : Ready s) : (fetchInstr s).Holds Ready := by
  have hframe := fetchInstr_frame s
  generalize fetchInstr s = fetched at hframe ⊢
  cases fetched with
  | ok v t => exact FetchFrame.ready hframe h
  | cut source t => exact FetchFrame.ready hframe h

theorem runInstruction_lands {s : State} (h : Ready s) : Lands (runInstruction s) := by
  have hready := fetchInstr_ready h
  unfold runInstruction
  generalize fetchInstr s = fetched at hready ⊢
  match fetched, hready with
  | .ok (.instr i) _, ht => exact exec_lands i ht
  | .ok (.unassigned bytes) _, ⟨hmem, _⟩ => exact illegalOpcode_lands bytes hmem
  | .cut source _, ⟨hmem, _⟩ => exact lands_next (resetCpu_invariant source hmem)

theorem closeWindow_ready {s : State} (hmem : s.mem.wf = true) (hrun : s.run = .running) :
    Ready (closeWindow s) :=
  ⟨by rwa [closeWindow_mem], by rwa [closeWindow_run], closeWindow_iWindow s⟩

theorem runningStep_lands {s : State} (hmem : s.mem.wf = true) (hrun : s.run = .running) :
    Lands (runningStep s) := by
  unfold runningStep
  split
  · exact interruptEntry_lands _ (by rwa [closeWindow_mem]) (by rwa [closeWindow_run])
  · exact runInstruction_lands (closeWindow_ready hmem hrun)

theorem wake_lands (line : Option Nat) {s : State} (h : Invariant s) : Lands (wake line s) := by
  cases line with
  | none => exact lands_next h
  | some n => exact interruptEntry_lands n (s := { s with run := .running }) h.1 rfl

theorem boundary_lands {s : State} (h : Invariant s) : Lands (boundary s) := by
  unfold boundary
  split
  · exact lands_next (resetCpu_invariant _ h.1)
  · split
    · rename_i hrun
      exact runningStep_lands h.1 hrun
    · exact wake_lands _ h
    · exact wake_lands _ h

/-- The environment's input touches nothing the invariant is about. -/
theorem takeInput_invariant {s : State} (h : Invariant s) : Invariant (takeInput s) := by
  rw [takeInput_frame]
  exact h

end Sys2Proof.Machine
end

-- ==== Proofs: the registers as bytes ====
section
/-!
PROOF. The bits of the CCR read as a byte (10_state.md R27, R28) and of the stack pointer that `RSP`
leaves (R25).
-/

namespace Sys2Proof.Machine

/-! ### The CCR as a byte (10_state.md R27, R28) -/

/-- The bits of the byte of a CCR, from bit 0 up: `C Z N I H 1 1 V`. -/
@[simp] theorem getElem_ccrByte (c : Ccr) (k : Nat) (hk : k < 8) :
    (ccrByte c)[k] = [c.c, c.z, c.n, c.i, c.h, true, true, c.v][k] := by
  rw [← BitVec.getLsbD_eq_getElem, ccrByte]
  iterate 6 rw [BitVec.getLsbD_append]
  interval_cases k <;> simp

/-- Loading the byte of a CCR gives that CCR. -/
theorem loadCcr_ccrByte (c : Ccr) : loadCcr (ccrByte c) = c := by
  simp [loadCcr]

/-- The byte of a loaded CCR is the byte loaded, with the two permanent ones. -/
theorem ccrByte_loadCcr (b : Byte) : ccrByte (loadCcr b) = b ||| 0x60 := by
  apply BitVec.eq_of_getElem_eq
  intro k hk
  interval_cases k <;> simp [loadCcr]

/-! ### The bytes of the stack pointer that `RSP` leaves (10_state.md R25) -/

theorem loByte_rsp (w : Word) : loByte ((w &&& 0xFF00) ||| 0x00FF) = 0xFF := by
  apply BitVec.eq_of_getLsbD_eq
  intro k hk
  interval_cases k <;> simp [loByte]

theorem hiByte_rsp (w : Word) : hiByte ((w &&& 0xFF00) ||| 0x00FF) = hiByte w := by
  apply BitVec.eq_of_getLsbD_eq
  intro k hk
  interval_cases k <;> simp [hiByte]

end Sys2Proof.Machine
end

-- ==== Proofs: the obligations of 10_state.md ====
section
/-!
PROOF. The obligations about the machine's state, settled from the layers above.
-/

namespace Sys2Proof.Settled

open Sys2Proof.Machine

/-- Settles O8 (R45). -/
theorem resetStateValues : Obligations.ResetStateValues :=
  ⟨rfl, rfl, rfl, rfl, rfl, rfl⟩

/-- Settles O9: nothing is listed in memory, no window is open and the machine runs. -/
theorem resetInvariant : Obligations.ResetInvariant :=
  ⟨rfl, .inl rfl, fun notRunning => absurd rfl notRunning⟩

/-- Settles O55. -/
theorem resetStackPointer : Obligations.ResetStackPointer := fun s =>
  ⟨{ s with sp := (s.sp &&& 0xFF00) ||| 0x00FF }, ⟨rfl, fun _ => rfl⟩,
    loByte_rsp s.sp, hiByte_rsp s.sp, rfl⟩

/-- Settles O59, from the bits of the byte of a CCR. -/
theorem ccrByte : Obligations.CcrByte := by
  refine ⟨fun c => ?_, loadCcr_ccrByte, ccrByte_loadCcr⟩
  simp

/-- Settles O10: the environment's input keeps the invariant, and whatever the boundary then does lands
in it. -/
theorem stepKeepsInvariant : Obligations.StepKeepsInvariant := fun _ t h hstep =>
  boundary_lands (takeInput_invariant h) t hstep

/-- Settles O25: with nothing to cut it short an instruction or an interrupt entry completes, and then
the CCR is the one its own flag functions give. -/
theorem flagWriteSummary : Obligations.FlagWriteSummary := by
  constructor
  · intro i s t huncut hexec
    have hends := exec_effect i s
    rw [hexec] at hends
    exact (Ends.of_uncut hends huncut).1
  · intro n s t huncut hentry
    have hends := interruptEntry_ends n s
    rw [hentry] at hends
    exact (Ends.of_uncut hends huncut).ccr

end Sys2Proof.Settled
end

-- ==== Proofs: what every step keeps of memory ====
section
/-!
PROOF. An induction over one step, said once for every property of memory and of the device
(`MemoryProperty`): what a write and a reset keep, a whole step keeps (60_exceptions.md R510). It is
used for the bytes that no write and no reset reaches (20_memory.md R77 to R79).
-/

namespace Sys2Proof.Machine

/-- A property that depends on memory and the device alone and that every completed write and every
reset keeps. -/
structure MemoryProperty (P : State → Prop) : Prop where
  congr : ∀ {s t : State}, t.mem = s.mem → t.device = s.device → t.powerLosses = s.powerLosses →
    P s → P t
  write : ∀ {a : Word} {v : Byte} {s t : State}, busWrite a v s = .ok () t → P s → P t
  reset : ∀ (source : ResetSource) {s : State}, P s → P (resetCpu source s)

/-- Every next state of a result has the property. -/
def NextHas (P : State → Prop) (r : Result) : Prop := ∀ t, r = .next t → P t

theorem nextHas_next {P : State → Prop} {t : State} (h : P t) : NextHas P (.next t) := by
  rintro _ ⟨⟩
  exact h

theorem nextHas_refused {P : State → Prop} (reason : Refusal) : NextHas P (.refused reason) := by
  rintro _ ⟨⟩

namespace MemoryProperty

variable {P : State → Prop} {s : State}

theorem kept (h : MemoryProperty P) : Kept P P := by
  refine Kept.of_holds ?_ ?_ ?_
  · intro s t ht
    exact h.congr (by rw [ht]; rfl) (by rw [ht]; rfl) (by rw [ht]; rfl)
  · intro a s hs
    exact busRead_holds hs fun t ht => h.congr ht.mem (by rw [ht.1]) (by rw [ht.1]) hs
  · intro a v s hs
    exact busWrite_holds hs fun t ht => h.write ht hs

/-- Completed or cut short by a reset, a result that ends with the property has it. -/
theorem nextHas_of_ends (h : MemoryProperty P) {r : Result} (hr : Ends P P r) : NextHas P r := by
  obtain ⟨t, ht, rfl⟩ | ⟨source, u, hu, rfl⟩ := hr
  · exact nextHas_next ht
  · exact nextHas_next (h.reset source hu)

theorem exec (h : MemoryProperty P) (i : Instr) (hs : P s) : NextHas P (exec i s) :=
  h.nextHas_of_ends (exec_ends h.kept i hs)

theorem interruptEntry (h : MemoryProperty P) (n : Nat) (hs : P s) :
    NextHas P (finish (interruptEntry n s)) :=
  h.nextHas_of_ends (h.kept.finish (h.kept.takeException _ (h.congr (s := s) rfl rfl rfl hs)))

theorem illegalOpcode (h : MemoryProperty P) (bytes : List Byte) (hs : P s) :
    NextHas P (illegalOpcode bytes s) := by
  obtain ⟨source, -, heq⟩ | ⟨-, heq⟩ | ⟨-, -, heq⟩ := illegalOpcode_cases bytes s
  · exact heq ▸ nextHas_next (h.reset source hs)
  · exact heq ▸ nextHas_next (h.reset _ hs)
  · exact heq ▸ nextHas_refused _

/-- A fetch reads only (`FetchFrame`), so it keeps the property. -/
theorem fetchInstr (h : MemoryProperty P) (hs : P s) : (fetchInstr s).Holds P := by
  have keeps : ∀ t, FetchFrame s t → P t := fun t ht =>
    h.congr (by rw [ht]) (by rw [ht]) (by rw [ht]) hs
  have hframe := fetchInstr_frame s
  generalize Machine.fetchInstr s = fetched at hframe ⊢
  cases fetched with
  | ok v t => exact keeps t hframe
  | cut source t => exact keeps t hframe

theorem runInstruction (h : MemoryProperty P) (hs : P s) : NextHas P (runInstruction s) := by
  have hfetch := h.fetchInstr hs
  unfold Machine.runInstruction
  generalize Machine.fetchInstr s = fetched at hfetch ⊢
  match fetched, hfetch with
  | .ok (.instr i) _, ht => exact h.exec i ht
  | .ok (.unassigned bytes) _, ht => exact h.illegalOpcode bytes ht
  | .cut source _, ht => exact nextHas_next (h.reset source ht)

theorem runningStep (h : MemoryProperty P) (hs : P s) : NextHas P (runningStep s) := by
  have hclosed : P (closeWindow s) :=
    h.congr (closeWindow_mem s) (closeWindow_device s) (closeWindow_powerLosses s) hs
  unfold Machine.runningStep
  split
  · exact h.interruptEntry _ hclosed
  · exact h.runInstruction hclosed

theorem wake (h : MemoryProperty P) (line : Option Nat) (hs : P s) : NextHas P (wake line s) := by
  cases line with
  | none => exact nextHas_next hs
  | some n => exact h.interruptEntry n (h.congr (s := s) rfl rfl rfl hs)

theorem boundary (h : MemoryProperty P) (hs : P s) : NextHas P (boundary s) := by
  unfold Machine.boundary
  split
  · exact nextHas_next (h.reset _ hs)
  · split
    · exact h.runningStep hs
    · exact h.wake _ hs
    · exact h.wake _ hs

/-- A property of memory and the device that writes and resets keep is kept by every step. -/
theorem step (h : MemoryProperty P) (hs : P s) : NextHas P (step s) := by
  refine h.boundary (h.congr ?_ ?_ ?_ hs) <;> rw [takeInput_frame]

end MemoryProperty

/-! ### The device and the bytes outside RAM -/

/-- The device of `t` is that of `s`, and so is every byte at an address that is not RAM. -/
def SameFixedMemory (s t : State) : Prop :=
  t.device = s.device ∧ ∀ b : Word, regionKind s.device b ≠ .ram → t.byteAt b = s.byteAt b

theorem SameFixedMemory.refl (s : State) : SameFixedMemory s s := ⟨rfl, fun _ _ => rfl⟩

theorem SameFixedMemory.trans {s t u : State} (h1 : SameFixedMemory s t)
    (h2 : SameFixedMemory t u) : SameFixedMemory s u := by
  obtain ⟨hdevice1, hbytes1⟩ := h1
  obtain ⟨hdevice2, hbytes2⟩ := h2
  exact ⟨hdevice2.trans hdevice1, fun b hb =>
    (hbytes2 b (by rwa [hdevice1])).trans (hbytes1 b hb)⟩

/-- A write changes a byte only where RAM stands at its address (20_memory.md R75, R77, R79). -/
theorem busWrite_sameFixedMemory {a : Word} {v : Byte} {s t : State}
    (h : busWrite a v s = .ok () t) : SameFixedMemory s t := by
  obtain ⟨⟨hframe, hother⟩, hstored⟩ := busWrite_ok h
  refine ⟨by rw [hframe], fun b hb => ?_⟩
  by_cases hba : b = a
  · subst hba
    rwa [Stored, if_neg hb] at hstored
  · exact hother b (by simpa using hba)

/-- A reset loses RAM at most (70_reset_and_hazards.md R571). -/
theorem resetCpu_sameFixedMemory (source : ResetSource) (s : State) :
    SameFixedMemory s (resetCpu source s) := by
  obtain ⟨-, -, -, -, -, -, hdevice, -⟩ := resetCpu_forced source s
  exact ⟨hdevice, fun b hb =>
    (byteAt_resetCpu source s b).trans (byteAt_memoryAfterReset source s hb)⟩

theorem sameFixedMemory_memoryProperty (s : State) : MemoryProperty (SameFixedMemory s) where
  congr hmem hdevice hpower h := h.trans ⟨hdevice, fun b _ => byteAt_congr hmem hdevice hpower b⟩
  write hw h := h.trans (busWrite_sameFixedMemory hw)
  reset source _ h := h.trans (resetCpu_sameFixedMemory source _)

end Sys2Proof.Machine
end

-- ==== Proofs: accesses by kind of memory ====
section
/-!
PROOF. What a bus access the CPU can make comes to, an equation for each kind of address
(20_memory.md R75 to R79), and what `INC`, `TST` and `CLR` come to when their accesses complete
(R68).
-/

namespace Sys2Proof.Machine

/-! ### Reads -/

theorem busRead_memory {a : Word} {s : State} (h : Accessible s a) (hm : IsMemory s a) :
    busRead a s = .ok (s.byteAt a) s := by
  obtain ⟨hk | hk, -⟩ := hm <;> rw [busRead_of_accessible h, readCell, hk]

theorem busRead_ioScripted {a : Word} {s : State} {v : Byte} {rest : List Byte}
    (h : Accessible s a) (hk : regionKind s.device a = .io) (hin : s.ioIn = v :: rest) :
    busRead a s = .ok v { s with ioIn := rest, ioLog := .read a v :: s.ioLog } := by
  rw [busRead_of_accessible h, readCell, hk]
  dsimp only
  rw [ioRead, hin]

theorem busRead_ioFree {a : Word} {s : State} (h : Accessible s a)
    (hk : regionKind s.device a = .io) (hin : s.ioIn = []) :
    busRead a s = .ok (Config.freeByte s.draws)
      { s with draws := s.draws + 1, ioLog := .read a (Config.freeByte s.draws) :: s.ioLog } := by
  rw [busRead_of_accessible h, readCell, hk]
  dsimp only
  rw [ioRead, hin]

theorem busRead_unimplemented {a : Word} {s : State} (h : Accessible s a)
    (hk : regionKind s.device a = .unimplemented) :
    busRead a s = .ok (Config.freeByte s.draws) { s with draws := s.draws + 1 } := by
  rw [busRead_of_accessible h, readCell, hk]
  rfl

/-! ### Writes -/

theorem writeCell_ram {a : Word} {s : State} (v : Byte) (hk : regionKind s.device a = .ram) :
    writeCell a v s =
      { s with
        mem := s.mem.write a.toNat v
        recent := s.recent ++ [{ addr := a, old := s.byteAt a }] } := by
  rw [writeCell, hk]

theorem writeCell_rom {a : Word} {s : State} (v : Byte) (hk : regionKind s.device a = .rom) :
    writeCell a v s = s := by
  rw [writeCell, hk]

theorem writeCell_io {a : Word} {s : State} (v : Byte) (hk : regionKind s.device a = .io) :
    writeCell a v s = { s with ioLog := .write a v :: s.ioLog } := by
  rw [writeCell, hk]

theorem writeCell_unimplemented {a : Word} {s : State} (v : Byte)
    (hk : regionKind s.device a = .unimplemented) : writeCell a v s = s := by
  rw [writeCell, hk]

/-- The environment sees a write of an I/O address, and nothing else comes of it (R78). -/
theorem busWrite_io {a : Word} {s : State} (v : Byte) (h : Accessible s a)
    (hk : regionKind s.device a = .io) :
    busWrite a v s = .ok () { s with ioLog := .write a v :: s.ioLog } := by
  rw [busWrite_of_accessible h, writeCell_io v hk]

/-! ### `INC`, `TST` and `CLR` on memory -/

theorem exec_incOf (m : RmwAddr) (s : State) :
    exec (.incOf m) s = modifyMemory increment m.addr s := by
  cases m <;> rfl

theorem exec_tstOf (m : RmwAddr) (s : State) : exec (.tstOf m) s = testMemory m.addr s := by
  cases m <;> rfl

theorem exec_clrOf (m : RmwAddr) (s : State) : exec (.clrOf m) s = clearMemory m.addr s := by
  cases m <;> rfl

/-- A read-modify-write whose two accesses complete (20_memory.md R68, D16). -/
theorem modifyMemory_ok {f : Byte → Ccr → Byte × Ccr} {m : Addr} {v : Byte} {s s1 s2 : State}
    (hr : busRead (effectiveAddress m s) s = .ok v s1)
    (hw : busWrite (effectiveAddress m s) (f v s1.ccr).1 s1 = .ok () s2) :
    modifyMemory f m s = .next { s2 with ccr := (f v s1.ccr).2 } := by
  rw [modifyMemory, hr, Bus.andThen_ok, hw, Bus.andThen_ok, finish_ok]

/-- A test of memory whose read completes. -/
theorem testMemory_ok {m : Addr} {v : Byte} {s s1 : State}
    (hr : busRead (effectiveAddress m s) s = .ok v s1) :
    testMemory m s = .next { s1 with ccr := moveFlags s1.ccr v } := by
  rw [testMemory, hr, Bus.andThen_ok, finish_ok]

/-- A clear of memory whose write completes. -/
theorem clearMemory_ok {m : Addr} {s s1 : State}
    (hw : busWrite (effectiveAddress m s) 0 s = .ok () s1) :
    clearMemory m s = .next { s1 with ccr := clearFlags s1.ccr } := by
  rw [clearMemory, hw, Bus.andThen_ok, finish_ok]

end Sys2Proof.Machine
end

-- ==== Proofs: the obligations of 20_memory.md ====
section
/-!
PROOF. The obligations about memory and the bus, settled from the layers above.
-/

namespace Sys2Proof.Settled

open Sys2Proof.Machine

/-- Settles O11: writes and resets keep the device and the bytes outside RAM, so every step does. -/
theorem stepKeepsFixedMemory : Obligations.StepKeepsFixedMemory := fun s t hstep =>
  (sameFixedMemory_memoryProperty s).step (SameFixedMemory.refl s) t hstep

/-- Settles O20, an equation for each kind of address. -/
theorem busReadByKind : Obligations.BusReadByKind := fun _ _ h =>
  ⟨busRead_memory h, fun _ _ => busRead_ioScripted h, busRead_ioFree h, busRead_unimplemented h⟩

/-- Settles O21: the write completes because nothing cuts it short, and what it then does is
`writeCell`. -/
theorem busWriteByKind : Obligations.BusWriteByKind := by
  intro a v s h
  refine ⟨writeCell a v s, busWrite_of_accessible h, writeCell_frame a v s, fun hram => ?_,
    writeCell_rom v, writeCell_io v, writeCell_unimplemented v⟩
  have hstored := writeCell_stored a v s
  rw [Stored, if_pos hram] at hstored
  exact ⟨hstored, by rw [writeCell_ram v hram]⟩

/-- Settles O22: the accesses of each instruction complete, and the environment sees them in order. -/
theorem ioReadModifyWrite : Obligations.IoReadModifyWrite := by
  rintro m s ea v rest rfl haccess hio hin
  have hread := busRead_ioScripted haccess hio hin
  have hwrite := modifyMemory_ok (f := increment) hread (busWrite_io _ haccess hio)
  have hclear := clearMemory_ok (busWrite_io 0 haccess hio)
  exact ⟨⟨_, (exec_incOf m s).trans hwrite, rfl, rfl⟩,
    ⟨_, (exec_tstOf m s).trans (testMemory_ok hread), rfl, rfl⟩,
    ⟨_, (exec_clrOf m s).trans hclear, rfl, rfl⟩⟩

end Sys2Proof.Settled
end

-- ==== Proofs: the encoder and the decoder ====
section
/-!
PROOF. The decoder and the encoder are inverse to each other (30_encoding.md R100 to R102): the
decoder's equations, what completing a cell of the opcode map can answer, and the one fact about the
map itself, that each cell stands at the opcode its instructions encode to.
-/

namespace Sys2Proof

open Sys2Proof.Machine

/-! ### The decoder's equations (R102) -/

/-- After the pre-byte, the second byte's cell on the `$9E` page decides. -/
theorem decode_prebyte (op : Byte) (bs : List Byte) :
    decode (prebyte :: op :: bs) =
      (prebytePage op).elim (.error (.unassignedAfterPrebyte op)) (·.complete bs) := by
  cases hcell : prebytePage op <;> simp [decode, hcell]

/-- Any other first byte's cell on page 1 decides. -/
theorem decode_pageOne {op : Byte} (hop : op ≠ prebyte) (bs : List Byte) :
    decode (op :: bs) = (pageOne op).elim (.error (.unassigned op)) (·.complete bs) := by
  cases hcell : pageOne op <;> simp [decode, hop, hcell]

/-! ### Completing a cell with its operand bytes (R101, R105) -/

/-- A 16-bit operand is put together again from its two bytes. -/
theorem Form.complete_oneWord (make : Word → Instr) (w : Word) (rest : List Byte) :
    (Form.oneWord make).complete (hiByte w :: loByte w :: rest) = .ok (make w, rest) := by
  rw [Form.complete, wordOf_hi_lo]

/-- Completing a cell fails only for want of operand bytes. -/
theorem Form.eq_truncated_of_complete_error {form : Form} {bs : List Byte} {e : DecodeError}
    (h : form.complete bs = .error e) : e = .truncated := by
  revert h
  fun_cases Form.complete form bs <;> simp [eq_comm]

/-- A place of the map completes to an instruction only where a cell stands. -/
theorem complete_cell_eq_ok {cell : Option Form} {e : DecodeError} {bs : List Byte}
    {r : Instr × List Byte} :
    cell.elim (.error e) (·.complete bs) = .ok r ↔
      ∃ form, cell = some form ∧ form.complete bs = .ok r := by
  cases cell <;> simp

/-- Any refusal but `truncated` is the refusal of an empty place. -/
theorem complete_cell_eq_error {cell : Option Form} {e e' : DecodeError} {bs : List Byte}
    (he' : e' ≠ .truncated) :
    cell.elim (.error e) (·.complete bs) = .error e' ↔ cell = none ∧ e = e' := by
  cases cell with
  | none => simp
  | some form => simpa using fun h => he' (Form.eq_truncated_of_complete_error h)

/-- Every instruction a cell stands for is encoded as these opcode bytes and then its operand bytes,
a 16-bit operand as two, the high byte first. -/
def Form.Encodes (opcode : List Byte) : Form → Prop
  | .inherent i => encode i = opcode
  | .oneByte make => ∀ b, encode (make b) = opcode ++ [b]
  | .twoBytes make => ∀ b c, encode (make b c) = opcode ++ [b, c]
  | .oneWord make => ∀ w, encode (make w) = opcode ++ [hiByte w, loByte w]

/-- What completes a cell is exactly the operand bytes of the instruction made. -/
theorem Form.Encodes.of_complete {form : Form} {opcode bs rest : List Byte} {i : Instr}
    (h : form.Encodes opcode) (hc : form.complete bs = .ok (i, rest)) :
    opcode ++ bs = encode i ++ rest := by
  revert h hc
  fun_cases Form.complete form bs
  case case1 =>
    rintro h ⟨⟩
    exact congrArg (· ++ bs) h.symm
  case case2 make b bs =>
    rintro h ⟨⟩
    simp [h b]
  case case3 make b c bs =>
    rintro h ⟨⟩
    simp [h b c]
  case case4 make b c bs =>
    rintro h ⟨⟩
    simp [h (wordOf b c)]
  all_goals nofun

/-! ### The opcode map agrees with the encoder (R100, R110) -/

/-- Each cell of a page stands at the opcode byte its instructions are encoded with: the column is
the high nibble, the place in the column the low one. `pre` is what comes before the opcode byte. -/
def PageEncodes (pre : List Byte) (page : List (List (Option Form))) : Prop :=
  ∀ column ∈ page.zipIdx, ∀ cell ∈ column.1.zipIdx, ∀ form ∈ cell.1,
    form.Encodes (pre ++ [BitVec.ofNat 8 (16 * column.2 + cell.2)])

theorem cellAt_eq_some {page : List (List (Option Form))} {op : Byte} {form : Form}
    (h : cellAt page op = some form) :
    ∃ column, page[op.toNat / 16]? = some column ∧ column[op.toNat % 16]? = some (some form) := by
  unfold cellAt at h
  split at h
  · nomatch h
  next column hcolumn =>
    split at h
    · nomatch h
    next cell hcell => exact ⟨column, hcolumn, h ▸ hcell⟩

/-- The two nibbles of an opcode byte find its cell, and together they are the byte. -/
theorem PageEncodes.of_cellAt {pre : List Byte} {page : List (List (Option Form))} {op : Byte}
    {form : Form} (hpage : PageEncodes pre page) (h : cellAt page op = some form) :
    form.Encodes (pre ++ [op]) := by
  obtain ⟨column, hcolumn, hcell⟩ := cellAt_eq_some h
  have hform := hpage (column, _) (List.mk_mem_zipIdx_iff_getElem?.mpr hcolumn)
    (some form, _) (List.mk_mem_zipIdx_iff_getElem?.mpr hcell) form rfl
  rwa [Nat.div_add_mod, BitVec.ofNat_toNat, BitVec.setWidth_eq] at hform

/-- Cell by cell: the encoder's own equation for each of the 249 instructions of page 1. -/
theorem pageOneColumns_encodes : PageEncodes [] pageOneColumns := by
  simp only [PageEncodes, pageOneColumns, column0, column1, column2, column3, column4, column5,
    column6, column7, column8, column9, columnA, columnB, columnC, columnD, columnE, columnF,
    List.zipIdx_cons, List.zipIdx_nil, List.forall_mem_cons, Option.mem_def, Option.some.injEq,
    forall_eq', Form.Encodes, reduceCtorEq, List.not_mem_nil, false_imp_iff, implies_true,
    and_true, true_and]
  and_intros <;> intros <;> rfl

/-- Cell by cell, for the 41 instructions of the `$9E` page. -/
theorem prebyteColumns_encodes : PageEncodes [prebyte] prebyteColumns := by
  simp only [PageEncodes, prebyteColumns, prebyteColumn6, prebyteColumnD, prebyteColumnE,
    List.zipIdx_cons, List.zipIdx_nil, List.forall_mem_cons, Option.mem_def, Option.some.injEq,
    forall_eq', Form.Encodes, reduceCtorEq, List.not_mem_nil, false_imp_iff, implies_true,
    and_true, true_and]
  and_intros <;> intros <;> rfl

theorem pageOne_encodes {op : Byte} {form : Form} (h : pageOne op = some form) :
    form.Encodes [op] :=
  PageEncodes.of_cellAt pageOneColumns_encodes h

theorem prebytePage_encodes {op : Byte} {form : Form} (h : prebytePage op = some form) :
    form.Encodes [prebyte, op] :=
  PageEncodes.of_cellAt prebyteColumns_encodes h

/-! ### Decoding and encoding -/

/-- The opcode bytes of each instruction lead the decoder to the instruction's cell, which takes the
operand bytes as they stand; a 16-bit operand has to be put together again from its two. -/
theorem decode_encode (i : Instr) (rest : List Byte) :
    decode (encode i ++ rest) = .ok (i, rest) := by
  cases i with
  | ldhxImm w | cphxImm w
  | subExt w | cmpExt w | sbcExt w | cpxExt w | andExt w | bitExt w | ldaExt w | staExt w
  | eorExt w | adcExt w | oraExt w | addExt w | jmpExt w | jsrExt w | ldxExt w | stxExt w
  | subIx2 w | cmpIx2 w | sbcIx2 w | cpxIx2 w | andIx2 w | bitIx2 w | ldaIx2 w | staIx2 w
  | eorIx2 w | adcIx2 w | oraIx2 w | addIx2 w | jmpIx2 w | jsrIx2 w | ldxIx2 w | stxIx2 w
  | subSp2 w | cmpSp2 w | sbcSp2 w | cpxSp2 w | andSp2 w | bitSp2 w | ldaSp2 w | staSp2 w
  | eorSp2 w | adcSp2 w | oraSp2 w | addSp2 w | ldxSp2 w | stxSp2 w =>
    exact Form.complete_oneWord _ w rest
  | _ => rfl

/-- Whichever page the cell stands on, it was completed with the bytes after the opcode. -/
theorem eq_encode_append_of_decode {bs rest : List Byte} {i : Instr}
    (h : decode bs = .ok (i, rest)) : bs = encode i ++ rest := by
  match bs with
  | [] => nomatch h
  | op :: bs =>
    by_cases hop : op = prebyte
    · subst hop
      match bs with
      | [] => nomatch h
      | op2 :: bs =>
        rw [decode_prebyte, complete_cell_eq_ok] at h
        obtain ⟨form, hcell, hcomplete⟩ := h
        exact (prebytePage_encodes hcell).of_complete hcomplete
    · rw [decode_pageOne hop, complete_cell_eq_ok] at h
      obtain ⟨form, hcell, hcomplete⟩ := h
      exact (pageOne_encodes hcell).of_complete hcomplete

/-! ### The empty cells (R112) -/

theorem decode_eq_unassignedAfterPrebyte_iff {op : Byte} {bs : List Byte} :
    decode (prebyte :: op :: bs) = .error (.unassignedAfterPrebyte op) ↔ prebytePage op = none := by
  simp [decode_prebyte, complete_cell_eq_error]

theorem decode_prebyte_ne_unassigned (op : Byte) (bs : List Byte) :
    decode (prebyte :: bs) ≠ .error (.unassigned op) := by
  match bs with
  | [] => nofun
  | op2 :: bs => simp [decode_prebyte, complete_cell_eq_error]

theorem decode_eq_unassigned_iff {op : Byte} {bs : List Byte} :
    decode (op :: bs) = .error (.unassigned op) ↔ op ≠ prebyte ∧ pageOne op = none := by
  by_cases hop : op = prebyte
  · subst hop
    simp [decode_prebyte_ne_unassigned]
  · simp [decode_pageOne hop, complete_cell_eq_error, hop]

/-- The empty places of page 1, read off the map at each of its 256 places. -/
theorem pageOne_eq_none_iff :
    ∀ op : Byte, op ≠ prebyte ∧ pageOne op = none ↔ op ∈ unassignedFirst := by decide

/-- The empty places of the `$9E` page, read off in the same way. -/
theorem prebytePage_eq_none_iff :
    ∀ op : Byte, prebytePage op = none ↔ op ∉ assignedAfterPrebyte := by decide

end Sys2Proof
end

-- ==== Proofs: the obligations of 30_encoding.md ====
section
/-!
PROOF. The obligations about the encoding, settled from the layer above.
-/

namespace Sys2Proof.Settled

/-- Settles O1, constructor by constructor. -/
theorem decodeEncode : Obligations.DecodeEncode := fun i rest _ => decode_encode i rest

/-- Settles O2: each cell of the opcode map stands at the opcode its instructions encode to. -/
theorem decodeSound : Obligations.DecodeSound := fun _ _ _ h => eq_encode_append_of_decode h

/-- Settles O3: the decoder refuses exactly at the empty places of the map, and those are the ones
listed. -/
theorem unassignedOpcodes : Obligations.UnassignedOpcodes :=
  ⟨fun op _ => decode_eq_unassigned_iff.trans (pageOne_eq_none_iff op),
    fun op _ => decode_eq_unassignedAfterPrebyte_iff.trans (prebytePage_eq_none_iff op)⟩

end Sys2Proof.Settled
end

-- ==== Proofs: the instructions that leave H unchanged ====
section
/-!
PROOF. What keeps the high byte of the index register (40_addressing_modes.md R162). Bus accesses
leave every register, so an instruction changes `H` only where its own register changes do: `exec_ends`
cannot say that, because it allows every register change. `exec_keepsH` goes through the instructions
that are not listed.
-/

namespace Sys2Proof.Machine

/-- The high byte of the index register is `b`, and nothing can cut an access short. -/
def HighByteIs (b : Byte) (s : State) : Prop := s.h = b ∧ Uncut s

/-- A sequence of accesses completes, with `b` in `H`. -/
def Bus.LeavesH {α : Type} (b : Byte) (r : Bus α) : Prop := r.Leads (HighByteIs b) fun _ => False

/-- An instruction completes, with `b` in `H`. -/
def EndsWithH (b : Byte) (r : Result) : Prop := ∃ t, HighByteIs b t ∧ r = .next t

/-- An instruction without accesses. -/
theorem EndsWithH.next {b : Byte} {t : State} (h : HighByteIs b t) : EndsWithH b (.next t) :=
  ⟨t, h, rfl⟩

/-- The end of an instruction: its accesses complete, and what it then does to the registers leaves
`H`. -/
theorem EndsWithH.finish {α : Type} {b : Byte} {r : Bus α} {f : α → State → State}
    (hr : r.LeavesH b)
    (hf : ∀ v t, HighByteIs b t → HighByteIs b (f v t) := by intro _ _ ht; exact ht) :
    EndsWithH b (finish (r.andThen fun v t => .ok () (f v t))) := by
  cases r with
  | ok v t => exact ⟨f v t, hf v t hr, rfl⟩
  | cut source t => exact hr.elim

/-- An instruction that ends with an access. -/
theorem EndsWithH.of_leaves {b : Byte} {r : Bus Unit} (hr : r.LeavesH b) :
    EndsWithH b (Machine.finish r) := by
  cases r with
  | ok v t => exact ⟨t, hr, rfl⟩
  | cut source t => exact hr.elim

namespace HighByteIs

variable {b : Byte} {s : State}

/-- An access leaves every register, and nothing cuts it short. -/
theorem access {α : Type} {r : Bus α} (h : HighByteIs b s)
    (hreg : ∀ v t, r = .ok v t → t.withRegisters s = t) (hr : r.Leads Uncut fun _ => False) :
    r.LeavesH b := by
  cases r with
  | ok v t => exact ⟨by rw [← hreg v t rfl]; exact h.1, hr⟩
  | cut source t => exact hr

theorem read (h : HighByteIs b s) (a : Word) : (busRead a s).LeavesH b :=
  h.access (fun _ _ hr => (busRead_ok hr).registers) (uncut_kept.read a s h.2)

theorem write (h : HighByteIs b s) (a : Word) (v : Byte) : (busWrite a v s).LeavesH b :=
  h.access (fun _ _ hr => (busWrite_ok hr).1.registers) (uncut_kept.write a v s h.2)

/-- Loading the CCR leaves `H`. -/
theorem setCcr (h : HighByteIs b s) (c : Ccr) : HighByteIs b { s with ccr := c } := h

/-! ### Sequences of accesses -/

theorem readOperand (h : HighByteIs b s) (op : Operand) : (readOperand op s).LeavesH b := by
  cases op with
  | imm ii => exact h
  | mem m => exact h.read _

theorem busRead16 (h : HighByteIs b s) (a : Word) : (busRead16 a s).LeavesH b :=
  (h.read _).andThen fun _ _ h1 => (h1.read _).andThen fun _ _ h2 => h2

theorem busWrite16 (h : HighByteIs b s) (a v : Word) : (busWrite16 a v s).LeavesH b :=
  (h.write _ _).andThen fun _ _ h1 => h1.write _ _

theorem push8 (h : HighByteIs b s) (v : Byte) : (push8 v s).LeavesH b :=
  (h.write _ _).andThen fun _ _ h1 => h1

theorem pull8 (h : HighByteIs b s) : (pull8 s).LeavesH b :=
  read (s := { s with sp := s.sp + 1 }) h _

theorem pushWord (h : HighByteIs b s) (w : Word) : (pushWord w s).LeavesH b :=
  (h.push8 _).andThen fun _ _ h1 => h1.push8 _

theorem pullWord (h : HighByteIs b s) : (pullWord s).LeavesH b :=
  h.pull8.andThen fun _ _ h1 => h1.pull8.andThen fun _ _ h2 => h2

/-- `H` is not stacked and not changed (60_exceptions.md R533). -/
theorem takeException (h : HighByteIs b s) (vector : Word) : (takeException vector s).LeavesH b :=
  (h.pushWord _).andThen fun _ _ h1 =>
  (h1.push8 _).andThen fun _ _ h2 =>
  (h2.push8 _).andThen fun _ _ h3 =>
  (h3.push8 _).andThen fun _ t h4 =>
  (busRead16 (s := { t with ccr := { t.ccr with i := true }, iWindow := none }) h4 _).andThen
    fun _ _ h5 => h5

/-- `H` is not restored (48_control_system.md R462). -/
theorem returnFromException (h : HighByteIs b s) : (returnFromException s).LeavesH b :=
  h.pull8.andThen fun c _ h1 =>
  (h1.setCcr (loadCcr c)).pull8.andThen fun a t2 h2 =>
  (pull8 (s := { t2 with a := a }) h2).andThen fun x t3 h3 =>
  (pullWord (s := { t3 with x := x }) h3).andThen fun _ _ h4 => h4

theorem moveTo (h : HighByteIs b s) (dst : Word) (v : Byte) : (moveTo dst v s).LeavesH b :=
  (h.write _ _).andThen fun _ _ h1 => h1

/-! ### Changes of registers, and the shapes of instructions -/

theorem branchIf (h : HighByteIs b s) (condition : Bool) (rr : Byte) :
    HighByteIs b (branchIf condition rr s) := by
  cases condition with
  | true => exact h
  | false => exact h

theorem openWindow (h : HighByteIs b s) (old : Bool) : HighByteIs b (openWindow old s) := by
  unfold Machine.openWindow
  split
  · exact h
  · exact h

theorem daa (h : HighByteIs b s) : EndsWithH b (execDaa s) := by
  unfold execDaa
  split
  · exact .next h
  · exact .next h

theorem accumulate (h : HighByteIs b s) (f : Byte → Byte → Ccr → Byte × Ccr) (op : Operand) :
    EndsWithH b (accumulate f op s) :=
  .finish (h.readOperand op)

theorem compareWith (h : HighByteIs b s) (register : State → Byte) (f : Byte → Byte → Ccr → Ccr)
    (op : Operand) : EndsWithH b (compareWith register f op s) :=
  .finish (h.readOperand op)

theorem loadA (h : HighByteIs b s) (op : Operand) : EndsWithH b (loadA op s) :=
  .finish (h.readOperand op)

theorem loadX (h : HighByteIs b s) (op : Operand) : EndsWithH b (loadX op s) :=
  .finish (h.readOperand op)

theorem modifyMemory (h : HighByteIs b s) (f : Byte → Ccr → Byte × Ccr) (m : Addr) :
    EndsWithH b (modifyMemory f m s) :=
  .of_leaves <| (h.read _).andThen fun _ _ h1 => (h1.write _ _).andThen fun _ _ h2 => h2

theorem bitBranch (h : HighByteIs b s) (n : Nat) (w : Bool) (dd rr : Byte) :
    EndsWithH b (bitBranch n w dd rr s) :=
  .finish (h.read _) fun _ _ ht => (ht.setCcr _).branchIf _ _

theorem compareBranch (h : HighByteIs b s) (m : Addr) (rr : Byte) :
    EndsWithH b (compareBranch m rr s) :=
  .finish (h.read _) fun _ _ ht => ht.branchIf _ _

theorem decrementBranch (h : HighByteIs b s) (m : Addr) (rr : Byte) :
    EndsWithH b (decrementBranch m rr s) :=
  .of_leaves <| (h.read _).andThen fun _ _ h1 => (h1.write _ _).andThen fun _ _ h2 =>
    h2.branchIf _ _

end HighByteIs

/-- An instruction that is not in the list of R162 completes with `H` as it was: those of the list are
the first case, and every other one's register changes leave `H`. -/
theorem exec_keepsH {i : Instr} {b : Byte} {s : State} (hi : changesH i = false)
    (h : HighByteIs b s) : EndsWithH b (exec i s) := by
  unfold exec
  cases i
  case ldhxImm | ldhxDir | movDirIxInc | movIxIncDir | cbeqIx1Inc | cbeqIxInc | aix | div | pulh |
      clrh | tsx =>
    cases hi
  case addImm | addDir | addExt | addIx2 | addIx1 | addSp2 | addSp1 | addIx | adcImm | adcDir |
      adcExt | adcIx2 | adcIx1 | adcSp2 | adcSp1 | adcIx | subImm | subDir | subExt | subIx2 |
      subIx1 | subSp2 | subSp1 | subIx | sbcImm | sbcDir | sbcExt | sbcIx2 | sbcIx1 | sbcSp2 |
      sbcSp1 | sbcIx | andImm | andDir | andExt | andIx2 | andIx1 | andSp2 | andSp1 | andIx | oraImm
      | oraDir | oraExt | oraIx2 | oraIx1 | oraSp2 | oraSp1 | oraIx | eorImm | eorDir | eorExt |
      eorIx2 | eorIx1 | eorSp2 | eorSp1 | eorIx =>
    exact h.accumulate _ _
  case cmpImm | cmpDir | cmpExt | cmpIx2 | cmpIx1 | cmpSp2 | cmpSp1 | cmpIx | cpxImm | cpxDir |
      cpxExt | cpxIx2 | cpxIx1 | cpxSp2 | cpxSp1 | cpxIx | bitImm | bitDir | bitExt | bitIx2 |
      bitIx1 | bitSp2 | bitSp1 | bitIx =>
    exact h.compareWith _ _ _
  case ldaImm | ldaDir | ldaExt | ldaIx2 | ldaIx1 | ldaSp2 | ldaSp1 | ldaIx =>
    exact h.loadA _
  case ldxImm | ldxDir | ldxExt | ldxIx2 | ldxIx1 | ldxSp2 | ldxSp1 | ldxIx =>
    exact h.loadX _
  case tstDir | tstIx1 | tstSp1 | tstIx =>
    exact .finish (h.read _)
  case staDir | staExt | staIx2 | staIx1 | staSp2 | staSp1 | staIx | stxDir | stxExt | stxIx2 |
      stxIx1 | stxSp2 | stxSp1 | stxIx | clrDir | clrIx1 | clrSp1 | clrIx | psha | pshh | pshx =>
    exact .finish (h.write _ _)
  case negDir | negIx1 | negSp1 | negIx | comDir | comIx1 | comSp1 | comIx | lsrDir | lsrIx1 | lsrSp1
      | lsrIx | rorDir | rorIx1 | rorSp1 | rorIx | asrDir | asrIx1 | asrSp1 | asrIx | lslDir |
      lslIx1 | lslSp1 | lslIx | rolDir | rolIx1 | rolSp1 | rolIx | decDir | decIx1 | decSp1 | decIx
      | incDir | incIx1 | incSp1 | incIx | bset0 | bset1 | bset2 | bset3 | bset4 | bset5 | bset6 |
      bset7 | bclr0 | bclr1 | bclr2 | bclr3 | bclr4 | bclr5 | bclr6 | bclr7 =>
    exact h.modifyMemory _ _
  case bra | brn | bhi | bls | bcc | bcs | bne | beq | bhcc | bhcs | bpl | bmi | bmc | bms | bil |
      bih | bge | blt | bgt | ble | cbeqa | cbeqx =>
    exact .next (h.branchIf _ _)
  case dbnza rr => exact .next (HighByteIs.branchIf (s := { s with a := s.a - 1 }) h _ rr)
  case dbnzx rr => exact .next (HighByteIs.branchIf (s := { s with x := s.x - 1 }) h _ rr)
  case brset0 | brset1 | brset2 | brset3 | brset4 | brset5 | brset6 | brset7 | brclr0 | brclr1 |
      brclr2 | brclr3 | brclr4 | brclr5 | brclr6 | brclr7 =>
    exact h.bitBranch _ _ _ _
  case cbeqDir | cbeqSp1 =>
    exact h.compareBranch _ _
  case dbnzDir | dbnzIx1 | dbnzIx | dbnzSp1 =>
    exact h.decrementBranch _ _
  case jsrDir | jsrExt | jsrIx2 | jsrIx1 | jsrIx | bsr =>
    exact .finish (h.pushWord _)
  case pula | pulx =>
    exact .finish h.pull8
  case rts =>
    exact .finish h.pullWord
  case swi =>
    exact .of_leaves (h.takeException _)
  case rti =>
    exact .of_leaves h.returnFromException
  case cphxDir =>
    exact .finish (h.busRead16 _)
  case sthx =>
    exact .finish (h.busWrite16 _ _)
  case movDirDir =>
    exact .of_leaves <| (h.read _).andThen fun _ _ h1 => h1.moveTo _ _
  case movImmDir =>
    exact .of_leaves (h.moveTo _ _)
  case daa =>
    exact h.daa
  case tap | cli | sei =>
    exact .next ((h.setCcr _).openWindow _)
  case nega | coma | lsra | rora | asra | lsla | rola | deca | inca | negx | comx | lsrx | rorx | asrx
      | lslx | rolx | decx | incx | tsta | tstx | clra | clrx | cphxImm | ais | jmpDir | jmpExt |
      jmpIx2 | jmpIx1 | jmpIx | mul | nsa | tpa | stop | wait | txs | tax | clc | sec | rsp | nop |
      txa =>
    exact .next h

end Sys2Proof.Machine
end

-- ==== Proofs: effective addresses as numbers ====
section
/-!
PROOF. The index register and an unsigned 8-bit offset as numbers, for the effective addresses of
40_addressing_modes.md.
-/

namespace Sys2Proof.Machine

theorem hx_toNat (s : State) : s.hx.toNat = s.h.toNat * 256 + s.x.toNat := wordOf_toNat s.h s.x

/-- An 8-bit address or offset is unsigned (R143, R148, R152). -/
theorem zext16_toNat (b : Byte) : (zext16 b).toNat = b.toNat :=
  BitVec.toNat_setWidth_of_le (by decide)

end Sys2Proof.Machine
end

-- ==== Proofs: the obligations of 40_addressing_modes.md ====
section
/-!
PROOF. The obligations about the addressing modes and the index register, settled from the layers
above.
-/

namespace Sys2Proof.Settled

open Sys2Proof.Machine

/-- Settles O24: with no reset in it, an instruction that is not listed completes, and nothing it does
reaches `H`. -/
theorem onlyListedInstructionsChangeH : Obligations.OnlyListedInstructionsChangeH := by
  intro i s t huncut hexec hi
  obtain ⟨t', ⟨hh, -⟩, heq⟩ := exec_keepsH hi (⟨rfl, huncut⟩ : HighByteIs s.h s)
  rw [hexec] at heq
  cases heq
  exact hh

/-- Settles O51, mode by mode: a sum of words is the sum of the numbers modulo 2^16. -/
theorem effectiveAddresses : Obligations.EffectiveAddresses := by
  intro s b w
  refine ⟨zext16_toNat b, rfl, ?ix2, ?ix1, hx_toNat s, BitVec.toNat_add s.sp w, ?sp1⟩
  case ix2 => rw [effectiveAddress, BitVec.toNat_add, hx_toNat]
  case ix1 => rw [effectiveAddress, BitVec.toNat_add, hx_toNat, zext16_toNat]
  case sp1 => rw [effectiveAddress, BitVec.toNat_add, zext16_toNat]

end Sys2Proof.Settled
end

-- ==== Proofs: claims about one instruction ====
section
/-!
PROOF. How the claims of Sys2Proof/Safety.lean about one instruction are met. A claim comes to one
equation, the state in which the instruction completes when its accesses do; the frame and the byte
stored are those of the accesses themselves (20_memory.md R75 to R79), because what an instruction does
after its accesses touches no memory.
-/

namespace Sys2Proof.Machine

/-! ### The registers after an access -/

theorem ReadFrame.ccr {s t : State} (h : ReadFrame s t) : t.ccr = s.ccr := by
  rw [h.1]

theorem ReadFrame.hx {s t : State} (h : ReadFrame s t) : t.hx = s.hx := by
  rw [h.1, State.hx, State.hx]

theorem WriteFrame.a {l : List Word} {s t : State} (h : WriteFrame l s t) : t.a = s.a := by
  rw [h.1]

theorem WriteFrame.x {l : List Word} {s t : State} (h : WriteFrame l s t) : t.x = s.x := by
  rw [h.1]

theorem WriteFrame.ccr {l : List Word} {s t : State} (h : WriteFrame l s t) : t.ccr = s.ccr := by
  rw [h.1]

theorem WriteFrame.device {l : List Word} {s t : State} (h : WriteFrame l s t) :
    t.device = s.device := by
  rw [h.1]

/-! ### One write after another -/

theorem WriteFrame.trans {l k : List Word} {s t u : State} (h1 : WriteFrame l s t)
    (h2 : WriteFrame k t u) : WriteFrame (l ++ k) s u := by
  refine ⟨by rw [h2.1, h1.1], fun b hb => ?_⟩
  rw [List.mem_append, not_or] at hb
  obtain ⟨hl, hk⟩ := hb
  rw [h2.2 b hk, h1.2 b hl]

/-- What was stored stands there after writes elsewhere. -/
theorem Stored.before {a : Word} {v : Byte} {l : List Word} {s t u : State} (h : Stored a v s t)
    (hlater : WriteFrame l t u) (ha : a ∉ l) : Stored a v s u := by
  rwa [Stored, hlater.2 a ha]

/-- A byte is stored over what stood there before writes elsewhere. -/
theorem Stored.after {a : Word} {v : Byte} {l : List Word} {s t u : State} (h : Stored a v t u)
    (hearlier : WriteFrame l s t) (ha : a ∉ l) : Stored a v s u := by
  rwa [Stored, hearlier.device, hearlier.2 a ha] at h

/-! ### Accesses that complete -/

theorem readOperand_ok {op : Operand} {m : Byte} {s t : State} (h : readOperand op s = .ok m t) :
    ReadFrame s t := by
  cases op with
  | imm ii =>
    cases h
    exact .refl s
  | mem addr => exact busRead_ok h

/-- The higher byte is read first (20_memory.md R64). -/
theorem busRead16_ok {a : Word} {hi lo : Byte} {s s1 s2 : State} (h1 : busRead a s = .ok hi s1)
    (h2 : busRead (a + 1) s1 = .ok lo s2) : busRead16 a s = .ok (wordOf hi lo) s2 := by
  rw [busRead16, h1, Bus.andThen_ok, h2, Bus.andThen_ok]

/-- The higher byte is written first (20_memory.md R64). -/
theorem busWrite16_ok {a : Word} {hi lo : Byte} {s s1 s2 : State}
    (h1 : busWrite a hi s = .ok () s1) (h2 : busWrite (a + 1) lo s1 = .ok () s2) :
    busWrite16 a (wordOf hi lo) s = .ok () s2 := by
  rw [busWrite16, hiByte_wordOf, loByte_wordOf, h1, Bus.andThen_ok, h2]

/-! ### From the equation of an instruction to the claim about it -/

theorem Completes.of_readFrame {i : Instr} {s s1 t : State} (hexec : exec i s = .next t)
    (hframe : ReadFrame s s1) (hbytes : ∀ b, t.byteAt b = s1.byteAt b := by exact fun _ => rfl) :
    Completes i s t :=
  ⟨hexec, fun b => (hbytes b).trans (hframe.2 b)⟩

theorem CompletesStoring.of_writeFrame {stored : List Word} {i : Instr} {s s1 t : State}
    (hexec : exec i s = .next t) (hframe : WriteFrame stored s s1)
    (hbytes : ∀ b, t.byteAt b = s1.byteAt b := by exact fun _ => rfl) :
    CompletesStoring stored i s t :=
  ⟨hexec, fun b hb => (hbytes b).trans (hframe.2 b hb)⟩

theorem OperandClaim.of_exec {make : Operand → Instr} {result : Byte → State → State}
    (hexec : ∀ {op m s s1}, readOperand op s = .ok m s1 → exec (make op) s = .next (result m s1))
    (hbytes : ∀ m t b, (result m t).byteAt b = t.byteAt b := by exact fun _ _ _ => rfl) :
    OperandClaim make result := fun _ m _ s1 hread =>
  have hframe := readOperand_ok hread
  ⟨.of_readFrame (hexec hread) hframe (hbytes m s1), hframe⟩

theorem WriteClaim.of_exec {i : Instr} {ea : State → Word} {value : State → Byte}
    {result : State → State}
    (hexec : ∀ {s s1}, busWrite (ea s) (value s) s = .ok () s1 → exec i s = .next (result s1))
    (hbytes : ∀ t b, (result t).byteAt b = t.byteAt b := by exact fun _ _ => rfl) :
    WriteClaim i ea value result := fun _ s1 hwrite =>
  have ⟨hframe, hstored⟩ := busWrite_ok hwrite
  ⟨.of_writeFrame (hexec hwrite) hframe (hbytes s1), hframe, hstored⟩

theorem ReadWriteClaim.of_exec {i : Instr} {source dest : State → Word} {value : Byte → Ccr → Byte}
    {result : Byte → State → State}
    (hexec : ∀ {v s s1 s2}, busRead (source s) s = .ok v s1 →
      busWrite (dest s) (value v s.ccr) s1 = .ok () s2 → exec i s = .next (result v s2))
    (hbytes : ∀ v t b, (result v t).byteAt b = t.byteAt b := by exact fun _ _ _ => rfl) :
    ReadWriteClaim i source dest value result := by
  intro v s s1 s2 hread hwrite
  have hreadFrame := busRead_ok hread
  obtain ⟨hwriteFrame, hstored⟩ := busWrite_ok hwrite
  refine ⟨⟨hexec hread hwrite, fun b hb => ?_⟩, hreadFrame, hwriteFrame, hstored⟩
  rw [hbytes, hwriteFrame.2 b hb, hreadFrame.2 b]

end Sys2Proof.Machine
end

-- ==== Proofs: loads, stores and moves whose accesses complete ====
section
/-!
PROOF. The state in which each shape of load, store and move completes (41_load_store_move.md R180 to
R191), and the constructors of each family as the shape they have in common.
-/

namespace Sys2Proof.Machine

/-! ### One shape for every mode -/

theorem exec_ldaOf (op : Operand) (s : State) : exec (.ldaOf op) s = loadA op s := by
  cases op with
  | imm ii => rfl
  | mem m => cases m <;> rfl

theorem exec_ldxOf (op : Operand) (s : State) : exec (.ldxOf op) s = loadX op s := by
  cases op with
  | imm ii => rfl
  | mem m => cases m <;> rfl

theorem exec_staOf (m : Addr) (s : State) : exec (.staOf m) s = storeByte m s.a s := by
  cases m <;> rfl

theorem exec_stxOf (m : Addr) (s : State) : exec (.stxOf m) s = storeByte m s.x s := by
  cases m <;> rfl

/-! ### The flags of a word (R183, R186) -/

theorem wordOf_eq_zero_iff (hi lo : Byte) : wordOf hi lo = 0 ↔ hi = 0 ∧ lo = 0 := by
  constructor
  · intro h
    exact ⟨by rw [← hiByte_wordOf hi lo, h]; rfl, by rw [← loByte_wordOf hi lo, h]; rfl⟩
  · rintro ⟨rfl, rfl⟩
    rfl

theorem bit15_wordOf (hi lo : Byte) : bit15 (wordOf hi lo) = hi.getLsbD 7 := by
  rw [bit15, wordOf, BitVec.getLsbD_append]
  rfl

/-- The flags of a word by its two bytes. -/
theorem moveFlags16_wordOf (c : Ccr) (hi lo : Byte) :
    moveFlags16 c (wordOf hi lo) =
      { c with v := false, n := hi.getLsbD 7, z := decide (hi = 0 ∧ lo = 0) } := by
  simp only [moveFlags16, bit15_wordOf, wordOf_eq_zero_iff]

/-! ### Loads -/

theorem loadA_ok {op : Operand} {m : Byte} {s s1 : State} (h : readOperand op s = .ok m s1) :
    loadA op s = .next { s1 with a := m, ccr := moveFlags s1.ccr m } := by
  rw [loadA, h, Bus.andThen_ok, finish_ok]

theorem loadX_ok {op : Operand} {m : Byte} {s s1 : State} (h : readOperand op s = .ok m s1) :
    loadX op s = .next { s1 with x := m, ccr := moveFlags s1.ccr m } := by
  rw [loadX, h, Bus.andThen_ok, finish_ok]

theorem loadHx_wordOf (hi lo : Byte) (s : State) :
    loadHx (wordOf hi lo) s =
      { s with
        h := hi, x := lo
        ccr := { s.ccr with
          v := false, n := hi.getLsbD 7, z := decide (hi = 0 ∧ lo = 0) } } := by
  rw [loadHx, hiByte_wordOf, loByte_wordOf, moveFlags16_wordOf]

theorem exec_ldhxDir_ok {dd hi lo : Byte} {s s1 s2 : State}
    (h1 : busRead (zext16 dd) s = .ok hi s1) (h2 : busRead (zext16 dd + 1) s1 = .ok lo s2) :
    exec (.ldhxDir dd) s = .next (loadHx (wordOf hi lo) s2) := by
  show execLdhxDir dd s = _
  rw [execLdhxDir, busRead16_ok h1 h2, Bus.andThen_ok, finish_ok]

/-! ### Stores -/

theorem storeByte_ok {m : Addr} {v : Byte} {s s1 : State}
    (h : busWrite (effectiveAddress m s) v s = .ok () s1) :
    storeByte m v s = .next { s1 with ccr := moveFlags s1.ccr v } := by
  rw [storeByte, h, Bus.andThen_ok, finish_ok]

/-- The writes leave `HX`, so the flags are those of the `H` and `X` before them. -/
theorem exec_sthx_ok {dd : Byte} {s s1 s2 : State} (h1 : busWrite (zext16 dd) s.h s = .ok () s1)
    (h2 : busWrite (zext16 dd + 1) s.x s1 = .ok () s2) :
    exec (.sthx dd) s = .next { s2 with ccr := moveFlags16 s2.ccr s.hx } := by
  have hhx : s2.hx = s.hx := by
    rw [(busWrite_ok h2).1.1, (busWrite_ok h1).1.1, State.hx, State.hx]
  have hwrite : busWrite16 (zext16 dd) s.hx s = .ok () s2 := busWrite16_ok h1 h2
  show execSthx dd s = _
  rw [execSthx, hwrite, Bus.andThen_ok, finish_ok, hhx]

/-! ### Moves -/

theorem moveTo_ok {dst : Word} {v : Byte} {s s1 : State} (h : busWrite dst v s = .ok () s1) :
    moveTo dst v s = .ok () { s1 with ccr := moveFlags s1.ccr v } := by
  rw [moveTo, h, Bus.andThen_ok]

theorem exec_movDirDir_ok {src dst v : Byte} {s s1 s2 : State}
    (hread : busRead (zext16 src) s = .ok v s1) (hwrite : busWrite (zext16 dst) v s1 = .ok () s2) :
    exec (.movDirDir src dst) s = .next { s2 with ccr := moveFlags s2.ccr v } := by
  show execMovDirDir src dst s = _
  rw [execMovDirDir, hread, Bus.andThen_ok, moveTo_ok hwrite, finish_ok]

/-- The destination is the `HX` before the read, which the read leaves. -/
theorem exec_movDirIxInc_ok {dd v : Byte} {s s1 s2 : State}
    (hread : busRead (zext16 dd) s = .ok v s1) (hwrite : busWrite s.hx v s1 = .ok () s2) :
    exec (.movDirIxInc dd) s = .next (postInc { s2 with ccr := moveFlags s2.ccr v }) := by
  rw [← (busRead_ok hread).hx] at hwrite
  show execMovDirIxInc dd s = _
  rw [execMovDirIxInc, hread, Bus.andThen_ok, moveTo_ok hwrite, Bus.andThen_ok, finish_ok]

theorem exec_movImmDir_ok {ii dd : Byte} {s s1 : State}
    (hwrite : busWrite (zext16 dd) ii s = .ok () s1) :
    exec (.movImmDir ii dd) s = .next { s1 with ccr := moveFlags s1.ccr ii } := by
  show execMovImmDir ii dd s = _
  rw [execMovImmDir, moveTo_ok hwrite, finish_ok]

theorem exec_movIxIncDir_ok {dd v : Byte} {s s1 s2 : State} (hread : busRead s.hx s = .ok v s1)
    (hwrite : busWrite (zext16 dd) v s1 = .ok () s2) :
    exec (.movIxIncDir dd) s = .next (postInc { s2 with ccr := moveFlags s2.ccr v }) := by
  show execMovIxIncDir dd s = _
  rw [execMovIxIncDir, hread, Bus.andThen_ok, moveTo_ok hwrite, Bus.andThen_ok, finish_ok]

end Sys2Proof.Machine
end

-- ==== Proofs: the obligations of 41_load_store_move.md ====
section
/-!
PROOF. The obligations about loads, stores, moves and clears, settled from the layers above.
-/

namespace Sys2Proof.Settled

open Sys2Proof.Machine

/-- Settles O4: the bytes of each word are those its instruction is encoded as. -/
theorem sampleWordsDecode : Obligations.SampleWordsDecode :=
  ⟨decode_encode (.ldhxImm 0x1234) [], decode_encode (.ldaSp2 0x0250) [],
    decode_encode (.brset7 0x16 0xFD) [], decode_encode (.movDirDir 0xF0 0xF1) [],
    decode_encode (.dbnzSp1 0x10 0xFC) [], decode_encode (.jsrExt 0x1234) [],
    decode_encode .lsla [], decode_encode (.blt 0xFA) [], decode_encode .rti []⟩

/-- Settles O26: in every mode a load is its one read and then the change of the register. -/
theorem loadByteForms : Obligations.LoadByteForms :=
  ⟨.of_exec fun hread => (exec_ldaOf _ _).trans (loadA_ok hread),
    .of_exec fun hread => (exec_ldxOf _ _).trans (loadX_ok hread)⟩

/-- Settles O27: two reads, neither of which touches the flags that the word then sets. -/
theorem loadIndexRegister : Obligations.LoadIndexRegister := by
  refine ⟨fun jjkk s => ⟨rfl, fun _ => rfl⟩, fun dd hi lo s s1 s2 hhigh hlow => ?direct⟩
  case direct =>
    have hframe := (busRead_ok hhigh).trans (busRead_ok hlow)
    have hexec := exec_ldhxDir_ok hhigh hlow
    rw [loadHx_wordOf, hframe.ccr] at hexec
    exact ⟨.of_readFrame hexec hframe, hframe⟩

/-- Settles O28: the write leaves the register stored, so its flags can be read off afterwards. -/
theorem storeByteForms : Obligations.StoreByteForms := by
  constructor
  · refine fun m => .of_exec fun {s s1} hwrite => ?_
    have hexec := (exec_staOf m s).trans (storeByte_ok hwrite)
    rwa [← (busWrite_ok hwrite).1.a] at hexec
  · refine fun m => .of_exec fun {s s1} hwrite => ?_
    have hexec := (exec_stxOf m s).trans (storeByte_ok hwrite)
    rwa [← (busWrite_ok hwrite).1.x] at hexec

/-- Settles O29: the two writes are at different addresses, so neither touches the byte of the other. -/
theorem storeIndexRegister : Obligations.StoreIndexRegister := by
  rintro dd s s1 s2 ea rfl hhigh hlow
  obtain ⟨hframe1, hstored1⟩ := busWrite_ok hhigh
  obtain ⟨hframe2, hstored2⟩ := busWrite_ok hlow
  have hframe := hframe1.trans hframe2
  have hexec := exec_sthx_ok hhigh hlow
  rw [State.hx, moveFlags16_wordOf, hframe.ccr] at hexec
  exact ⟨.of_writeFrame hexec hframe, hframe,
    hstored1.before hframe2 (by simp), hstored2.after hframe1 (by simp)⟩

/-- Settles O30, form by form. -/
theorem moveForms : Obligations.MoveForms :=
  ⟨fun _ _ => .of_exec exec_movDirDir_ok, fun _ => .of_exec exec_movDirIxInc_ok,
    fun _ _ => .of_exec exec_movImmDir_ok, fun _ => .of_exec exec_movIxIncDir_ok⟩

/-- Settles O31: on memory the one write; on a register no access at all. -/
theorem clearForms : Obligations.ClearForms :=
  ⟨fun m => .of_exec fun hwrite => (exec_clrOf m _).trans (clearMemory_ok hwrite),
    fun _ => ⟨rfl, fun _ => rfl⟩, fun _ => ⟨rfl, fun _ => rfl⟩, fun _ => ⟨rfl, fun _ => rfl⟩⟩

end Sys2Proof.Settled
end

-- ==== Proofs: the source's formulae for carry, borrow and overflow ====
section
/-!
PROOF. The Boolean formulae of 42_arithmetic.md R221 to R230 on single bits, tied to the arithmetic of
Sys2Proof/Machine/Flags.lean, for every width and every bit. A sum is settled by the carry that enters
and leaves a bit; a difference `r = a - m - k` is the sum `r + m + k = a` read backwards, so its
formulae are those of that sum.
-/

namespace Sys2Proof.Machine

/-- A carry or a borrow as a number of width `w`. -/
theorem setWidth_ofBool (w : Nat) (k : Bool) :
    (BitVec.ofBool k).setWidth w = if k then 1 else 0 := by
  cases k with
  | false => simp
  | true => exact BitVec.eq_of_toNat_eq (by simp)

/-- The formula on the two bits added and the bit of the sum says that two of the three bits added are
set. -/
theorem carryOfSum_xor (a m k : Bool) : carryOfSum a m (a ^^ (m ^^ k)) = Bool.atLeastTwo a m k := by
  revert a m k
  decide

/-- The formula for the carry, on the bit of any position, is the carry out of that position. -/
theorem carryOfSum_getLsbD {w i : Nat} (hi : i < w) (a m : BitVec w) (k : Bool) :
    carryOfSum (a.getLsbD i) (m.getLsbD i) ((a + m + if k then 1 else 0).getLsbD i) =
      BitVec.carry (i + 1) a m k := by
  rw [← setWidth_ofBool, BitVec.getLsbD_add_add_bool hi, carryOfSum_xor, BitVec.carry_succ]

/-- The carry out of the whole sum. -/
theorem carry_width {w : Nat} (a m : BitVec w) (k : Bool) :
    BitVec.carry w a m k = decide (2 ^ w ≤ a.toNat + m.toNat + k.toNat) := by
  rw [BitVec.carry, Nat.mod_eq_of_lt a.isLt, Nat.mod_eq_of_lt m.isLt]

theorem overflowOfSum_eq (a m r : Bool) :
    overflowOfSum a m r = (decide (a = m) && decide (r ≠ a)) := by
  revert a m r
  decide

theorem overflowOfDifference_eq (a m r : Bool) :
    overflowOfDifference a m r = (decide (a ≠ m) && decide (r ≠ a)) := by
  revert a m r
  decide

/-- A borrow is the carry of the sum that gives back what was subtracted from. -/
theorem borrowOfDifference_eq_carryOfSum (a m r : Bool) :
    borrowOfDifference a m r = carryOfSum r m a := by
  revert a m r
  decide

theorem toNat_sum {w : Nat} (a m : BitVec w) (k : Bool) :
    (a + m + if k then 1 else 0).toNat = (a.toNat + m.toNat + k.toNat) % 2 ^ w := by
  rw [← setWidth_ofBool, BitVec.toNat_add, BitVec.toNat_add, BitVec.toNat_setWidth,
    BitVec.toNat_ofBool, ← Nat.add_mod]

/-- A sum passes the width exactly when it comes out below what was added. -/
theorem carry_eq_lt {w : Nat} {r m a : BitVec w} {k : Bool} (hsum : r + m + (if k then 1 else 0) = a) :
    BitVec.carry w r m k = decide (a.toNat < m.toNat + k.toNat) := by
  have ha : a.toNat = (r.toNat + m.toNat + k.toNat) % 2 ^ w := by rw [← hsum, toNat_sum]
  have hr := r.isLt
  have hm := m.isLt
  have hk := k.toNat_le
  rw [carry_width, decide_eq_decide]
  by_cases hover : 2 ^ w ≤ r.toNat + m.toNat + k.toNat
  · rw [Nat.mod_eq_sub_mod hover, Nat.mod_eq_of_lt (by omega)] at ha
    omega
  · rw [Nat.mod_eq_of_lt (by omega)] at ha
    omega

/-- The formula for the borrow, on the sign bit, says that more was subtracted than there was. -/
theorem borrowOfDifference_getLsbD {w : Nat} (a m : BitVec (w + 1)) (k : Bool) :
    borrowOfDifference (a.getLsbD w) (m.getLsbD w) ((a - m - if k then 1 else 0).getLsbD w) =
      decide (a.toNat < m.toNat + k.toNat) := by
  generalize hr : a - m - (if k then 1 else 0) = r
  have hsum : r + m + (if k then 1 else 0) = a := by
    rw [← hr]
    abel
  rw [borrowOfDifference_eq_carryOfSum, ← carry_eq_lt hsum,
    ← carryOfSum_getLsbD (Nat.lt_succ_self w), hsum]

end Sys2Proof.Machine
end

-- ==== Proofs: arithmetic whose accesses complete ====
section
/-!
PROOF. The flag functions of Sys2Proof/Machine/Flags.lean are the source's formulae (42_arithmetic.md
R221 to R230, 43_logic_bit.md R285); and the state in which each shape of arithmetic instruction
completes, with the constructors of each family as the shape they have in common.
-/

namespace Sys2Proof.Machine

/-! ### Sums and differences (R220 to R227) -/

theorem add8_fst (c : Ccr) (a m : Byte) (k : Bool) :
    (add8 c a m k).1 = a + m + if k then 1 else 0 := by
  refine BitVec.eq_of_toNat_eq ?_
  rw [toNat_sum]
  exact BitVec.toNat_ofNat ..

/-- The half carry is the source's formula on bit 3. -/
theorem carryOfSum_add8_half (c : Ccr) (a m : Byte) (k : Bool) :
    carryOfSum (a.getLsbD 3) (m.getLsbD 3) ((add8 c a m k).1.getLsbD 3) = (add8 c a m k).2.h := by
  rw [add8_fst, carryOfSum_getLsbD (by decide)]
  rfl

/-- The carry is the source's formula on bit 7. -/
theorem carryOfSum_add8_carry (c : Ccr) (a m : Byte) (k : Bool) :
    carryOfSum (a.getLsbD 7) (m.getLsbD 7) ((add8 c a m k).1.getLsbD 7) = (add8 c a m k).2.c := by
  rw [add8_fst, carryOfSum_getLsbD (by decide), carry_width]
  rfl

/-- `ADD` and `ADC` compute the result that R221 and R222 give by formulae. -/
theorem additionResult_eq (k : Bool) (m : Byte) (t : State) :
    additionResult k m t =
      { t with a := (add8 t.ccr t.a m k).1, ccr := (add8 t.ccr t.a m k).2 } := by
  simp only [additionResult, ← add8_fst t.ccr, carryOfSum_add8_half, carryOfSum_add8_carry,
    overflowOfSum_eq]
  rfl

/-- The difference that the model truncates is the difference modulo `2 ^ w`. -/
theorem ofInt_difference {w : Nat} (a m : BitVec w) (k : Bool) :
    BitVec.ofInt w ((a.toNat : Int) - m.toNat - k.toNat) = a - m - if k then 1 else 0 := by
  have hk : BitVec.ofNat w k.toNat = if k then 1 else 0 := by
    cases k <;> rfl
  simp [Int.sub_eq_add_neg, BitVec.ofInt_add, BitVec.ofInt_neg, BitVec.sub_eq_add_neg, hk]

theorem sub8_fst (c : Ccr) (a m : Byte) (k : Bool) :
    (sub8 c a m k).1 = a - m - if k then 1 else 0 :=
  ofInt_difference a m k

/-- The borrow is the source's formula on bit 7. -/
theorem borrowOfDifference_sub8 (c : Ccr) (a m : Byte) (k : Bool) :
    borrowOfDifference (a.getLsbD 7) (m.getLsbD 7) ((sub8 c a m k).1.getLsbD 7) =
      (sub8 c a m k).2.c := by
  rw [sub8_fst, borrowOfDifference_getLsbD]
  rfl

theorem sub8_snd (c : Ccr) (a m : Byte) (k : Bool) :
    (sub8 c a m k).2 = differenceFlags c a m k := by
  simp only [differenceFlags, ← sub8_fst c, borrowOfDifference_sub8, overflowOfDifference_eq]
  rfl

/-- `CPHX` has no borrow in. -/
theorem sub16_eq (c : Ccr) (a m : Word) : sub16 c a m = wordDifferenceFlags c a m := by
  have hdiff : BitVec.ofInt 16 ((a.toNat : Int) - m.toNat) = a - m := by
    simpa using ofInt_difference a m false
  have hborrow : borrowOfDifference (a.getLsbD 15) (m.getLsbD 15) ((a - m).getLsbD 15) =
      decide (m.toNat > a.toNat) := by
    simpa using borrowOfDifference_getLsbD a m false
  simp only [sub16, hdiff, wordDifferenceFlags, hborrow, overflowOfDifference_eq]
  rfl

/-! ### One operand (R228 to R230, 43_logic_bit.md R285) -/

theorem increment_eq (v : Byte) (c : Ccr) :
    increment v c = (v + 1, { c with
      v := !v.getLsbD 7 && (v + 1).getLsbD 7, n := (v + 1).getLsbD 7, z := decide (v + 1 = 0) }) := by
  have hoverflow : decide (v = 0x7F) = (!v.getLsbD 7 && (v + 1).getLsbD 7) := by
    revert v
    decide
  rw [← hoverflow]
  rfl

theorem decrement_eq (v : Byte) (c : Ccr) :
    decrement v c = (v - 1, { c with
      v := v.getLsbD 7 && !(v - 1).getLsbD 7, n := (v - 1).getLsbD 7, z := decide (v - 1 = 0) }) := by
  have hoverflow : decide (v = 0x80) = (v.getLsbD 7 && !(v - 1).getLsbD 7) := by
    revert v
    decide
  rw [← hoverflow]
  rfl

theorem negate_eq (v : Byte) (c : Ccr) :
    negate v c = (-v, { c with
      v := v.getLsbD 7 && (-v).getLsbD 7, n := (-v).getLsbD 7, z := decide (-v = 0)
      c := decide (-v ≠ 0) }) := by
  have hoverflow : decide (v = 0x80) = (v.getLsbD 7 && (-v).getLsbD 7) := by
    revert v
    decide
  have hcarry : decide (v ≠ 0) = decide (-v ≠ 0) :=
    decide_eq_decide.mpr (not_congr BitVec.neg_eq_zero_iff).symm
  rw [← hoverflow, ← hcarry, ← BitVec.zero_sub]
  rfl

theorem complement_eq (v : Byte) (c : Ccr) :
    complement v c =
      (~~~v, { c with v := false, n := (~~~v).getLsbD 7, z := decide (~~~v = 0), c := true }) := by
  rw [← BitVec.allOnes_sub_eq_not]
  rfl

/-! ### Instructions on an 8-bit operand -/

theorem ReadFrame.a {s t : State} (h : ReadFrame s t) : t.a = s.a := by
  rw [h.1]

theorem accumulate_ok {f : Byte → Byte → Ccr → Byte × Ccr} {op : Operand} {m : Byte} {s s1 : State}
    (h : readOperand op s = .ok m s1) :
    accumulate f op s =
      .next { s1 with a := (f s1.a m s1.ccr).1, ccr := (f s1.a m s1.ccr).2 } := by
  rw [accumulate, h, Bus.andThen_ok, finish_ok]

theorem compareWith_ok {register : State → Byte} {f : Byte → Byte → Ccr → Ccr} {op : Operand}
    {m : Byte} {s s1 : State} (h : readOperand op s = .ok m s1) :
    compareWith register f op s = .next { s1 with ccr := f (register s1) m s1.ccr } := by
  rw [compareWith, h, Bus.andThen_ok, finish_ok]

theorem exec_addOf (op : Operand) (s : State) :
    exec (.addOf op) s = accumulate (fun a m c => add8 c a m false) op s := by
  cases op with
  | imm ii => rfl
  | mem m => cases m <;> rfl

theorem exec_adcOf (op : Operand) (s : State) :
    exec (.adcOf op) s = accumulate (fun a m c => add8 c a m c.c) op s := by
  cases op with
  | imm ii => rfl
  | mem m => cases m <;> rfl

theorem exec_subOf (op : Operand) (s : State) :
    exec (.subOf op) s = accumulate (fun a m c => sub8 c a m false) op s := by
  cases op with
  | imm ii => rfl
  | mem m => cases m <;> rfl

theorem exec_sbcOf (op : Operand) (s : State) :
    exec (.sbcOf op) s = accumulate (fun a m c => sub8 c a m c.c) op s := by
  cases op with
  | imm ii => rfl
  | mem m => cases m <;> rfl

theorem exec_cmpOf (op : Operand) (s : State) :
    exec (.cmpOf op) s = compareWith State.a (fun a m c => (sub8 c a m false).2) op s := by
  cases op with
  | imm ii => rfl
  | mem m => cases m <;> rfl

theorem exec_cpxOf (op : Operand) (s : State) :
    exec (.cpxOf op) s = compareWith State.x (fun x m c => (sub8 c x m false).2) op s := by
  cases op with
  | imm ii => rfl
  | mem m => cases m <;> rfl

/-- In every mode the sum of `A`, the operand read and the carry in. -/
theorem exec_addOf_ok {op : Operand} {m : Byte} {s s1 : State} (h : readOperand op s = .ok m s1) :
    exec (.addOf op) s = .next (additionResult false m s1) := by
  rw [exec_addOf, accumulate_ok h, additionResult_eq]

theorem exec_adcOf_ok {op : Operand} {m : Byte} {s s1 : State} (h : readOperand op s = .ok m s1) :
    exec (.adcOf op) s = .next (additionResult s1.ccr.c m s1) := by
  rw [exec_adcOf, accumulate_ok h, additionResult_eq]

/-! ### `CPHX` (R227) -/

theorem exec_cphxDir_ok {dd hi lo : Byte} {s s1 s2 : State}
    (h1 : busRead (zext16 dd) s = .ok hi s1) (h2 : busRead (zext16 dd + 1) s1 = .ok lo s2) :
    exec (.cphxDir dd) s = .next { s2 with ccr := sub16 s2.ccr s2.hx (wordOf hi lo) } := by
  show execCphxDir dd s = _
  rw [execCphxDir, busRead16_ok h1 h2, Bus.andThen_ok, finish_ok]

/-! ### Read-modify-write (R220, 20_memory.md R68) -/

theorem exec_decOf (m : RmwAddr) (s : State) :
    exec (.decOf m) s = modifyMemory decrement m.addr s := by
  cases m <;> rfl

theorem exec_negOf (m : RmwAddr) (s : State) : exec (.negOf m) s = modifyMemory negate m.addr s := by
  cases m <;> rfl

theorem exec_comOf (m : RmwAddr) (s : State) :
    exec (.comOf m) s = modifyMemory complement m.addr s := by
  cases m <;> rfl

/-- Neither access touches the CCR, so the flags can be computed before them or after. -/
theorem ReadWriteClaim.of_modifyMemory {i : Instr} {f : Byte → Ccr → Byte × Ccr} {m : Addr}
    (hexec : ∀ s, exec i s = modifyMemory f m s) :
    ReadWriteClaim i (effectiveAddress m) (effectiveAddress m) (fun v c => (f v c).1)
      (fun v t => { t with ccr := (f v t.ccr).2 }) := by
  refine .of_exec fun {v s s1 s2} hread hwrite => ?_
  rw [← (busRead_ok hread).ccr] at hwrite
  rw [hexec, modifyMemory_ok hread hwrite, (busWrite_ok hwrite).1.ccr]

/-- The family of a byte function: its forms on memory, on `A` and on `X` apply that function. -/
theorem RmwClaim.of_exec {memory : RmwAddr → Instr} {onA onX : Instr} {f : Byte → Ccr → Byte × Ccr}
    (hmemory : ∀ m s, exec (memory m) s = modifyMemory f m.addr s)
    (ha : ∀ s, exec onA s = modifyA f s := by exact fun _ => rfl)
    (hx : ∀ s, exec onX s = modifyX f s := by exact fun _ => rfl) : RmwClaim memory onA onX f :=
  ⟨fun m => .of_modifyMemory (hmemory m), fun s => ⟨ha s, fun _ => rfl⟩,
    fun s => ⟨hx s, fun _ => rfl⟩⟩

end Sys2Proof.Machine
end

-- ==== Proofs: multiplication, division, pointers and decimal adjust ====
section
/-!
PROOF. What the arithmetic instructions without an operand in memory compute, as numbers
(42_arithmetic.md R240 to R262). For `DAA`: every row of Table 5-2 that a state matches gives the
closed form R261, and the sum of two packed decimal bytes and a carry always matches one, so that the
correction turns it into the decimal sum.
-/

namespace Sys2Proof.Machine

/-! ### `MUL` (R240) -/

theorem product_toNat (a b : Byte) :
    (BitVec.ofNat 16 (a.toNat * b.toNat)).toNat = a.toNat * b.toNat := by
  have hlt : a.toNat * b.toNat < 256 * 256 := Nat.mul_lt_mul'' a.isLt b.isLt
  rw [BitVec.toNat_ofNat, Nat.mod_eq_of_lt hlt]

/-! ### `DIV` (R241) -/

/-- The quotient of `H:A` by `X` is above `$FF` exactly when `X ≤ H`. -/
theorem div_gt_255_iff {h a x : Byte} (hx : 0 < x.toNat) :
    (h.toNat * 256 + a.toNat) / x.toNat > 255 ↔ x.toNat ≤ h.toNat := by
  have ha := a.isLt
  rw [gt_iff_lt, Nat.lt_iff_add_one_le, Nat.le_div_iff_mul_le hx]
  omega

theorem exec_div_fits {s : State} (h : s.h.toNat < s.x.toNat) :
    exec .div s = .next
      { s with
        a := BitVec.ofNat 8 ((s.h.toNat * 256 + s.a.toNat) / s.x.toNat)
        h := BitVec.ofNat 8 ((s.h.toNat * 256 + s.a.toNat) % s.x.toNat)
        ccr := { s.ccr with
          z := decide ((s.h.toNat * 256 + s.a.toNat) / s.x.toNat = 0), c := false } } := by
  have hpos : 0 < s.x.toNat := by omega
  have hx : s.x ≠ 0 := fun h0 => absurd hpos (by rw [h0]; decide)
  have hfits : ¬(s.x = 0 ∨ (s.h.toNat * 256 + s.a.toNat) / s.x.toNat > 255) := by
    rw [div_gt_255_iff hpos]
    exact not_or.mpr ⟨hx, Nat.not_le_of_lt h⟩
  exact if_neg hfits

theorem exec_div_overflow {s : State} (h : s.x.toNat ≤ s.h.toNat) :
    exec .div s = .next
      { s with
        a := Config.freeByte s.draws
        h := Config.freeByte (s.draws + 1)
        ccr := { s.ccr with z := Config.freeBit (s.draws + 2), c := true }
        draws := s.draws + 3 } := by
  have hover : s.x = 0 ∨ (s.h.toNat * 256 + s.a.toNat) / s.x.toNat > 255 := by
    rcases Nat.eq_zero_or_pos s.x.toNat with hx | hx
    · exact .inl (BitVec.eq_of_toNat_eq hx)
    · exact .inr ((div_gt_255_iff hx).mpr h)
  exact if_pos hover

/-! ### `AIS`, `AIX`, `NSA` (R250 to R252) -/

/-- A sign-extended byte is added as a signed number, modulo 2^16. -/
theorem add_sext16 (w : Word) (ii : Byte) :
    w + sext16 ii = BitVec.ofInt 16 (w.toNat + ii.toInt) := by
  rw [BitVec.ofInt_add, BitVec.ofInt_natCast, BitVec.ofNat_toNat, BitVec.setWidth_eq]
  rfl

theorem hx_setHx (w : Word) (s : State) : (s.setHx w).hx = w := wordOf_hi_lo w

theorem swapNibbles_eq (a : Byte) :
    (a <<< 4) ||| (a >>> 4) = BitVec.ofNat 8 (a.toNat % 16 * 16 + a.toNat / 16) := by
  have ha := a.isLt
  have hlow : (a.toNat <<< 4) % 256 = (a.toNat % 16) <<< 4 := by
    omega
  refine BitVec.eq_of_toNat_eq ?_
  rw [BitVec.toNat_or, BitVec.toNat_shiftLeft, BitVec.toNat_ushiftRight, BitVec.toNat_ofNat]
  rw [hlow, Nat.shiftRight_eq_div_pow, ← Nat.shiftLeft_add_eq_or_of_lt (by omega)]
  omega

/-! ### `DAA` (R260 to R262) -/

/-- The correction of the closed form (R261). -/
def decimalCorrection (carry half : Bool) (a : Byte) : Byte :=
  (if carry || decide (a.toNat > 0x99) then 0x60 else 0x00) |||
    (if half || decide (a.toNat % 16 > 9) then 0x06 else 0x00)

/-- The carry of the closed form (R261). -/
def decimalCarry (carry : Bool) (a : Byte) : Bool := carry || decide (a.toNat > 0x99)

theorem daaMatches_iff {carry half : Bool} {a : Byte} {row : DaaRow} :
    daaMatches carry a half row = true ↔
      row.carry = carry ∧ row.half = half ∧ row.highFrom ≤ a.toNat / 16 ∧
        a.toNat / 16 ≤ row.highTo ∧ row.lowFrom ≤ a.toNat % 16 ∧ a.toNat % 16 ≤ row.lowTo := by
  simp only [daaMatches, Bool.and_eq_true, decide_eq_true_eq, and_assoc]

/-- In every row of Table 5-2 the least and the greatest accumulator are on the same side of each
threshold of the closed form, and the factor and the carry are those of that side. -/
theorem daaTable_corners : ∀ row ∈ daaTable,
    row.carryOut = (row.carry || decide (row.highFrom * 16 + row.lowFrom > 0x99)) ∧
    row.carryOut = (row.carry || decide (row.highTo * 16 + row.lowTo > 0x99)) ∧
    (row.lowTo > 9 → row.lowFrom > 9) ∧
    row.factor = (if row.carryOut then 0x60 else 0x00) |||
      (if row.half || decide (row.lowFrom > 9) then 0x06 else 0x00) := by
  decide

/-- Each row of Table 5-2 agrees with the closed form on every state that matches it. -/
theorem daaRow_closedForm {carry half : Bool} {a : Byte} {row : DaaRow} (hrow : row ∈ daaTable)
    (hmatch : daaMatches carry a half row = true) :
    row.factor = decimalCorrection carry half a ∧ row.carryOut = decimalCarry carry a := by
  obtain ⟨rfl, rfl, hhighFrom, hhighTo, hlowFrom, hlowTo⟩ := daaMatches_iff.mp hmatch
  obtain ⟨hleast, hgreatest, hlow, hfactor⟩ := daaTable_corners row hrow
  have hcarry : row.carryOut = decimalCarry row.carry a := by
    cases hc : row.carry with
    | true => rw [hleast, hc, decimalCarry, Bool.true_or, Bool.true_or]
    | false =>
      rw [hc, Bool.false_or] at hleast hgreatest
      rw [decimalCarry, Bool.false_or]
      by_cases ha : a.toNat > 0x99
      · rw [hgreatest, decide_eq_decide]
        omega
      · rw [hleast, decide_eq_decide]
        omega
  have hnibble : decide (row.lowFrom > 9) = decide (a.toNat % 16 > 9) := by
    rw [decide_eq_decide]
    omega
  rw [hfactor, hcarry, hnibble]
  exact ⟨rfl, rfl⟩

/-- The state `DAA` completes in on a row of Table 5-2. -/
theorem exec_daa_matching {s : State} {row : DaaRow} (hrow : row ∈ daaTable)
    (hmatch : daaMatches s.ccr.c s.a s.ccr.h row = true) :
    let r := s.a + decimalCorrection s.ccr.c s.ccr.h s.a
    exec .daa s = .next
      { s with
        a := r
        ccr := { s.ccr with
          v := Config.freeBit s.draws, n := r.getLsbD 7, z := decide (r = 0)
          c := decimalCarry s.ccr.c s.a }
        draws := s.draws + 1 } := by
  obtain ⟨found, hfound⟩ := Option.isSome_iff_exists.mp (List.find?_isSome.mpr ⟨row, hrow, hmatch⟩)
  obtain ⟨hfactor, hcarry⟩ :=
    daaRow_closedForm (List.mem_of_find?_eq_some hfound) (List.find?_some hfound)
  show execDaa s = _
  rw [execDaa, daaRow, hfound, ← hfactor, ← hcarry]
  rfl

theorem exec_daa_unmatched {s : State}
    (hnone : ∀ row ∈ daaTable, daaMatches s.ccr.c s.a s.ccr.h row = false) :
    exec .daa s = .next
      { s with
        a := Config.freeByte s.draws
        ccr := { s.ccr with
          v := Config.freeBit (s.draws + 1), n := Config.freeBit (s.draws + 2)
          z := Config.freeBit (s.draws + 3), c := Config.freeBit (s.draws + 4) }
        draws := s.draws + 5 } := by
  have hfound : daaTable.find? (daaMatches s.ccr.c s.a s.ccr.h) = none :=
    List.find?_eq_none.mpr fun row hrow => Bool.eq_false_iff.mp (hnone row hrow)
  show execDaa s = _
  rw [execDaa, daaRow, hfound]

/-! ### Decimal sums (R262) -/

theorem decimalCorrection_toNat (carry half : Bool) (a : Byte) :
    (decimalCorrection carry half a).toNat =
      (if decimalCarry carry a then 0x60 else 0) +
        (if half || decide (a.toNat % 16 > 9) then 6 else 0) := by
  rw [decimalCorrection, ← decimalCarry]
  split <;> split <;> rfl

/-- The binary sum of two packed decimal bytes and a carry: their tens sum to at most 18, and their
units with the carry to at most 19. The accumulator is the sum modulo 2^8, the carry and the half carry
are those out of bits 7 and 3. -/
structure BinarySum (tens units : Nat) (carry half : Bool) (a : Byte) : Prop where
  tens_le : tens ≤ 18
  units_le : units ≤ 19
  carry_eq : carry = decide (tens * 16 + units > 255)
  half_eq : half = decide (units > 15)
  toNat_eq : a.toNat = (tens * 16 + units) % 256

theorem BinarySum.exists_row {tens units : Nat} {carry half : Bool} {a : Byte}
    (h : BinarySum tens units carry half a) :
    ∃ row ∈ daaTable, daaMatches carry a half row = true := by
  obtain ⟨htens, hunits, rfl, rfl, ha⟩ := h
  simp only [daaTable, daaMatches_iff, List.exists_mem_cons_iff]
  -- The two carries select the rows of their kind; the nibbles then fall into one of those.
  by_cases hcarry : tens * 16 + units > 255 <;> by_cases hhalf : units > 15 <;>
    simp [hcarry, hhalf] <;> omega

/-- The closed form turns the binary sum into the decimal one. -/
theorem BinarySum.decimal {tens units : Nat} {carry half : Bool} {a : Byte}
    (h : BinarySum tens units carry half a) :
    let r := (a + decimalCorrection carry half a).toNat
    r / 16 ≤ 9 ∧ r % 16 ≤ 9 ∧
      (if decimalCarry carry a then 100 else 0) + r / 16 * 10 + r % 16 = tens * 10 + units := by
  obtain ⟨htens, hunits, rfl, rfl, ha⟩ := h
  simp only [BitVec.toNat_add, decimalCorrection_toNat, decimalCarry, Bool.or_eq_true,
    decide_eq_true_eq]
  split <;> split <;> omega

/-- `DAA` after the binary sum leaves the decimal sum in two digits and the carry. -/
theorem BinarySum.exec_daa {tens units : Nat} {t : State}
    (h : BinarySum tens units t.ccr.c t.ccr.h t.a) :
    ∃ u, exec .daa t = .next u ∧ u.a.toNat / 16 ≤ 9 ∧ u.a.toNat % 16 ≤ 9 ∧
      (if u.ccr.c then 100 else 0) + u.a.toNat / 16 * 10 + u.a.toNat % 16 = tens * 10 + units := by
  obtain ⟨row, hrow, hmatch⟩ := h.exists_row
  exact ⟨_, exec_daa_matching hrow hmatch, h.decimal⟩

theorem binarySum_additionResult {a1 a0 m1 m0 : Nat} {k : Bool} {m : Byte} {t : State}
    (ha1 : a1 ≤ 9) (ha0 : a0 ≤ 9) (hm1 : m1 ≤ 9) (hm0 : m0 ≤ 9)
    (ha : t.a.toNat = a1 * 16 + a0) (hm : m.toNat = m1 * 16 + m0) :
    BinarySum (a1 + m1) (a0 + m0 + k.toNat) (additionResult k m t).ccr.c
      (additionResult k m t).ccr.h (additionResult k m t).a := by
  have hk := k.toNat_le
  have hhalf : (add8 t.ccr t.a m k).2.h = decide (t.a.toNat % 16 + m.toNat % 16 + k.toNat > 15) := rfl
  have hcarry : (add8 t.ccr t.a m k).2.c = decide (t.a.toNat + m.toNat + k.toNat > 255) := rfl
  rw [additionResult_eq]
  refine ⟨by omega, by omega, ?carry, ?half, ?sum⟩
  case carry =>
    rw [hcarry, decide_eq_decide]
    omega
  case half =>
    rw [hhalf, decide_eq_decide]
    omega
  case sum =>
    rw [add8_fst, toNat_sum]
    omega

end Sys2Proof.Machine
end

-- ==== Proofs: the obligations of 42_arithmetic.md ====
section
/-!
PROOF. The obligations about arithmetic, settled from the layers above.
-/

namespace Sys2Proof.Settled

open Sys2Proof.Machine

/-- Settles O32: in every mode the one read and then the sum, whose flags are the formulae. -/
theorem addAndAdc : Obligations.AddAndAdc :=
  ⟨.of_exec exec_addOf_ok, .of_exec exec_adcOf_ok⟩

/-- Settles O33: in every mode the one read and then the difference, whose flags are the formulae. -/
theorem subAndSbc : Obligations.SubAndSbc := by
  constructor
  · refine .of_exec fun {op m s s1} hread => ?_
    rw [exec_subOf, accumulate_ok hread, sub8_fst, sub8_snd, if_neg Bool.false_ne_true,
      BitVec.ofNat_eq_ofNat, BitVec.sub_zero]
  · refine .of_exec fun {op m s s1} hread => ?_
    rw [exec_sbcOf, accumulate_ok hread, sub8_fst, sub8_snd]

/-- Settles O34: a compare takes of the difference only its flags. -/
theorem compareSetsFlagsOnly : Obligations.CompareSetsFlagsOnly := by
  constructor
  · refine .of_exec fun {op m s s1} hread => ?_
    rw [exec_cmpOf, compareWith_ok hread, sub8_snd]
  · refine .of_exec fun {op m s s1} hread => ?_
    rw [exec_cpxOf, compareWith_ok hread, sub8_snd]

/-- Settles O35: the two reads leave `HX` and the CCR, from which the flags are then set. -/
theorem compareIndexRegister : Obligations.CompareIndexRegister := by
  refine ⟨fun jjkk s => ?immediate, fun dd hi lo s s1 s2 hhigh hlow => ?direct⟩
  case immediate =>
    rw [← sub16_eq]
    exact ⟨rfl, fun _ => rfl⟩
  case direct =>
    have hframe := (busRead_ok hhigh).trans (busRead_ok hlow)
    have hexec := exec_cphxDir_ok hhigh hlow
    rw [sub16_eq, hframe.ccr, hframe.hx] at hexec
    exact ⟨.of_readFrame hexec hframe, hframe⟩

/-- Settles O37: each family applies one byte function, which is the source's formulae. -/
theorem incDecNegCom : Obligations.IncDecNegCom := by
  simp only [Obligations.IncDecNegCom, ← increment_eq, ← decrement_eq, ← negate_eq, ← complement_eq]
  exact ⟨.of_exec exec_incOf, .of_exec exec_decOf, .of_exec exec_negOf, .of_exec exec_comOf⟩

/-- Settles O38: on memory the one read; on a register no access at all. -/
theorem testSetsFlagsOnly : Obligations.TestSetsFlagsOnly := by
  refine ⟨fun m v s s1 hread => ?_, fun _ => ⟨rfl, fun _ => rfl⟩, fun _ => ⟨rfl, fun _ => rfl⟩⟩
  have hframe := busRead_ok hread
  exact ⟨.of_readFrame ((exec_tstOf m s).trans (testMemory_ok hread)) hframe, hframe⟩

/-- Settles O39: the product of two bytes fits a word, so its two bytes are exact. -/
theorem multiplyProduct : Obligations.MultiplyProduct := by
  intro s
  refine ⟨_, ⟨rfl, fun _ => rfl⟩, ?_, rfl⟩
  exact (congrArg BitVec.toNat (wordOf_hi_lo _)).trans (product_toNat s.x s.a)

/-- Settles O40: with `H < X` the quotient and the remainder both fit a byte. -/
theorem divideOrFreeQuotient : Obligations.DivideOrFreeQuotient := by
  refine ⟨fun s hlt => ?fits, fun s hle => ⟨exec_div_overflow hle, fun _ => rfl⟩⟩
  case fits =>
    have hpos : 0 < s.x.toNat := by omega
    have hx := s.x.isLt
    have hrem := Nat.mod_lt (s.h.toNat * 256 + s.a.toNat) hpos
    have hquot := mt (div_gt_255_iff (a := s.a) hpos).mp (Nat.not_le_of_lt hlt)
    have hdivision := Nat.div_add_mod (s.h.toNat * 256 + s.a.toNat) s.x.toNat
    have hexec := exec_div_fits hlt
    generalize (s.h.toNat * 256 + s.a.toNat) / s.x.toNat = q at *
    generalize (s.h.toNat * 256 + s.a.toNat) % s.x.toNat = r at *
    have hq : (BitVec.ofNat 8 q).toNat = q := Nat.mod_eq_of_lt (by omega)
    have hr : (BitVec.ofNat 8 r).toNat = r := Nat.mod_eq_of_lt (by omega)
    have hzero : decide (q = 0) = decide (BitVec.ofNat 8 q = 0) := by
      rw [decide_eq_decide, ← BitVec.toNat_inj, hq]
      rfl
    rw [hzero] at hexec
    refine ⟨_, ⟨hexec, fun _ => rfl⟩, ?_, ?_, rfl⟩
    · rw [hq, hr, hdivision]
    · rwa [hr]

/-- Settles O41: the sign-extended byte is the signed number it stands for, modulo 2^16. -/
theorem pointerAdjustAndSwap : Obligations.PointerAdjustAndSwap := by
  refine ⟨fun ii s => ?ais, fun ii s => ?aix, fun s => ?nsa⟩
  case ais =>
    rw [← add_sext16]
    exact ⟨rfl, fun _ => rfl⟩
  case aix =>
    rw [← add_sext16]
    exact ⟨s.setHx (s.hx + sext16 ii), ⟨rfl, fun _ => rfl⟩, hx_setHx _ s, rfl⟩
  case nsa =>
    rw [← swapNibbles_eq]
    exact ⟨rfl, fun _ => rfl⟩

/-- Settles O42: every row of the table obeys the closed form, whichever of them is found. -/
theorem decimalAdjust : Obligations.DecimalAdjust :=
  ⟨fun _ _ hrow hmatch => ⟨exec_daa_matching hrow hmatch, fun _ => rfl⟩,
    fun _ hnone => ⟨exec_daa_unmatched hnone, fun _ => rfl⟩⟩

/-- Settles O43: both instructions leave the binary sum, which `DAA` turns into the decimal one. -/
theorem decimalAddition : Obligations.DecimalAddition := by
  intro op m s s1 a1 a0 m1 m0 ha1 ha0 hm1 hm0 ha hm hread i carryIn hi
  have hframe := readOperand_ok hread
  have hsum : ∃ k : Bool, exec i s = .next (additionResult k m s1) ∧ carryIn = k.toNat := by
    rcases hi with ⟨rfl, rfl⟩ | ⟨rfl, rfl⟩
    · exact ⟨false, exec_addOf_ok hread, rfl⟩
    · exact ⟨s1.ccr.c, exec_adcOf_ok hread, by rw [hframe.ccr]⟩
  obtain ⟨k, hexec, rfl⟩ := hsum
  rw [← hframe.a] at ha
  obtain ⟨u, hdaa, hhigh, hlow, hvalue⟩ :=
    (binarySum_additionResult (k := k) ha1 ha0 hm1 hm0 ha hm).exec_daa
  exact ⟨_, u, hexec, hdaa, hhigh, hlow, by omega⟩

end Sys2Proof.Settled
end

-- ==== Proofs: logic and bit instructions whose accesses complete ====
section
/-!
PROOF. The logic on `A` (43_logic_bit.md R280 to R284) as one shape for every mode, with the flags of
its result read off the two operands; and the bit instructions (R286, R287) as one read-modify-write of
the direct address, with the byte written given bit by bit.
-/

namespace Sys2Proof.Machine

/-! ### The flags of a logic result (R280) -/

theorem moveFlags_and (c : Ccr) (a m : Byte) :
    moveFlags c (a &&& m) =
      { c with
        v := false, n := a.getLsbD 7 && m.getLsbD 7, z := decide (a &&& m = 0) } := by
  rw [moveFlags, bit7, BitVec.getLsbD_and]

theorem moveFlags_or (c : Ccr) (a m : Byte) :
    moveFlags c (a ||| m) =
      { c with
        v := false, n := a.getLsbD 7 || m.getLsbD 7, z := decide (a = 0 ∧ m = 0) } := by
  have hzero : a ||| m = 0 ↔ a = 0 ∧ m = 0 := BitVec.or_eq_zero_iff
  simp only [moveFlags, bit7, BitVec.getLsbD_or, hzero]

/-- The exclusive-OR of two bytes is zero when they are equal. -/
theorem moveFlags_xor (c : Ccr) (a m : Byte) :
    moveFlags c (a ^^^ m) =
      { c with v := false, n := a.getLsbD 7 ^^ m.getLsbD 7, z := decide (a = m) } := by
  have hzero : a ^^^ m = 0 ↔ a = m := BitVec.xor_eq_zero_iff
  simp only [moveFlags, bit7, BitVec.getLsbD_xor, hzero]

/-! ### One shape for every mode (R281 to R284) -/

theorem exec_andOf (op : Operand) (s : State) :
    exec (.andOf op) s = accumulate (fun a m c => (a &&& m, moveFlags c (a &&& m))) op s := by
  cases op with
  | imm ii => rfl
  | mem m => cases m <;> rfl

theorem exec_oraOf (op : Operand) (s : State) :
    exec (.oraOf op) s = accumulate (fun a m c => (a ||| m, moveFlags c (a ||| m))) op s := by
  cases op with
  | imm ii => rfl
  | mem m => cases m <;> rfl

theorem exec_eorOf (op : Operand) (s : State) :
    exec (.eorOf op) s = accumulate (fun a m c => (a ^^^ m, moveFlags c (a ^^^ m))) op s := by
  cases op with
  | imm ii => rfl
  | mem m => cases m <;> rfl

theorem exec_bitOf (op : Operand) (s : State) :
    exec (.bitOf op) s = compareWith State.a (fun a m c => moveFlags c (a &&& m)) op s := by
  cases op with
  | imm ii => rfl
  | mem m => cases m <;> rfl

/-! ### One bit of a byte (R286, R287) -/

/-- The mask is a power of two, whose one bit is bit `n`. -/
theorem getLsbD_bitMask {k : Nat} (n : Nat) (hk : k < 8) :
    (bitMask n).getLsbD k = decide (k = n) := by
  have htwoPow : bitMask n = BitVec.twoPow 8 n := rfl
  rw [htwoPow, BitVec.getLsbD_twoPow, ← Bool.decide_and, decide_eq_decide]
  omega

theorem getLsbD_or_bitMask {k : Nat} (v : Byte) (n : Nat) (hk : k < 8) :
    (v ||| bitMask n).getLsbD k = (decide (k = n) || v.getLsbD k) := by
  rw [BitVec.getLsbD_or, getLsbD_bitMask n hk, Bool.or_comm]

theorem getLsbD_and_not_bitMask {k : Nat} (v : Byte) (n : Nat) (hk : k < 8) :
    (v &&& ~~~bitMask n).getLsbD k = (!decide (k = n) && v.getLsbD k) := by
  rw [BitVec.getLsbD_and, BitVec.getLsbD_not, getLsbD_bitMask n hk, decide_eq_true hk,
    Bool.true_and, Bool.and_comm]

/-- The bit number in the opcode is the number of the bit set. -/
theorem exec_bsetOf (n : Fin 8) (dd : Byte) (s : State) :
    exec (.bsetOf n dd) s = setBit n dd s := by
  fin_cases n <;> rfl

/-- The bit number in the opcode is the number of the bit cleared. -/
theorem exec_bclrOf (n : Fin 8) (dd : Byte) (s : State) :
    exec (.bclrOf n dd) s = clearBit n dd s := by
  fin_cases n <;> rfl

end Sys2Proof.Machine
end

-- ==== Proofs: the obligations of 43_logic_bit.md ====
section
/-!
PROOF. The obligations about logic and bit instructions, settled from the layers above.
-/

namespace Sys2Proof.Settled

open Sys2Proof.Machine

/-- Settles O44: in every mode the one read and then the logic, whose flags are those of its result. -/
theorem logicForms : Obligations.LogicForms := by
  refine ⟨.of_exec fun {op m s s1} hread => ?and, .of_exec fun {op m s s1} hread => ?ora,
    .of_exec fun {op m s s1} hread => ?eor, .of_exec fun {op m s s1} hread => ?bit⟩
  case and => rw [exec_andOf, accumulate_ok hread, moveFlags_and]
  case ora => rw [exec_oraOf, accumulate_ok hread, moveFlags_or]
  case eor => rw [exec_eorOf, accumulate_ok hread, moveFlags_xor]
  case bit => rw [exec_bitOf, compareWith_ok hread, moveFlags_and]

/-- Settles O45: the byte written is the byte read with the mask of bit `n` set or cleared in it. -/
theorem bitSetClear : Obligations.BitSetClear := fun n dd =>
  ⟨fun v => v ||| bitMask n, fun v => v &&& ~~~bitMask n,
    fun v _ hk => ⟨getLsbD_or_bitMask v n hk, getLsbD_and_not_bitMask v n hk⟩,
    .of_modifyMemory (exec_bsetOf n dd), .of_modifyMemory (exec_bclrOf n dd)⟩

end Sys2Proof.Settled
end

-- ==== Proofs: shifts and rotates ====
section
/-!
PROOF. The five one-bit shifts of 44_shift_rotate.md R321 to R325 as numbers: a doubling or a
halving, plus the weight of the bit that enters. The bit enters at a place that the shift has
cleared, so setting it is adding its weight.
-/

namespace Sys2Proof.Machine

/-! ### One-bit shifts as numbers -/

theorem ofNat_toNat_mul_two {w : Nat} (v : BitVec w) : BitVec.ofNat w (v.toNat * 2) = v <<< 1 :=
  BitVec.eq_of_toNat_eq
    (by rw [BitVec.toNat_ofNat, BitVec.toNat_shiftLeft, Nat.shiftLeft_eq, pow_one])

theorem ofNat_toNat_div_two {w : Nat} (v : BitVec w) : BitVec.ofNat w (v.toNat / 2) = v >>> 1 := by
  have hhalf : v.toNat / 2 = (v >>> 1).toNat := by
    rw [BitVec.toNat_ushiftRight, Nat.shiftRight_eq_div_pow, pow_one]
  rw [hhalf, BitVec.ofNat_toNat, BitVec.setWidth_eq]

/-- A bit that enters at a place that is clear adds its weight. -/
theorem or_twoPow_eq_add {w i : Nat} {v : BitVec w} (hclear : v.getLsbD i = false) (k : Bool) :
    (v ||| if k then BitVec.twoPow w i else 0) = v + BitVec.ofNat w (k.toNat * 2 ^ i) := by
  cases k with
  | false => simp
  | true =>
    have hdisjoint : v &&& BitVec.twoPow w i = 0#w := by
      rw [BitVec.and_twoPow, hclear, if_neg Bool.false_ne_true]
    have hweight : BitVec.twoPow w i = BitVec.ofNat w (true.toNat * 2 ^ i) :=
      BitVec.eq_of_toNat_eq
        (by rw [BitVec.toNat_twoPow, Bool.toNat_true, Nat.one_mul, BitVec.toNat_ofNat])
    rw [if_pos rfl, ← BitVec.add_eq_or_of_and_eq_zero _ _ hdisjoint, hweight]

/-- Halving a signed number, rounded down, moves its bits down and keeps the sign bit. -/
theorem ofInt_toInt_div_two {w : Nat} (v : BitVec (w + 1)) :
    BitVec.ofInt (w + 1) (v.toInt / 2) = v >>> 1 ||| (v &&& BitVec.twoPow (w + 1) w) := by
  have hshift : BitVec.ofInt (w + 1) (v.toInt / 2) = v.sshiftRight 1 := by
    rw [BitVec.sshiftRight, Int.shiftRight_eq_div_pow]
    rfl
  rw [hshift]
  refine BitVec.eq_of_getLsbD_eq fun i hi => ?_
  rw [BitVec.getLsbD_sshiftRight, BitVec.getLsbD_or, BitVec.getLsbD_ushiftRight,
    BitVec.getLsbD_and, BitVec.getLsbD_twoPow]
  by_cases hsign : i = w
  · subst hsign
    simp [BitVec.msb_eq_getLsbD_last]
  · have hmoved : 1 + i < w + 1 := by omega
    simp [hmoved, Ne.symm hsign, Nat.le_of_lt_succ hi]

/-! ### The byte functions of the group (R321 to R325) -/

theorem shiftLeft_eq : shiftLeft = fun v c =>
    let r := BitVec.ofNat 8 (v.toNat * 2)
    (r, shiftedFlags c r (v.getLsbD 7)) := by
  funext v c
  rw [ofNat_toNat_mul_two]
  rfl

theorem arithmeticShiftRight_eq : arithmeticShiftRight = fun v c =>
    let r := BitVec.ofInt 8 (v.toInt / 2)
    (r, shiftedFlags c r (v.getLsbD 0)) := by
  funext v c
  rw [ofInt_toInt_div_two]
  rfl

theorem logicalShiftRight_eq : logicalShiftRight = fun v c =>
    let r := BitVec.ofNat 8 (v.toNat / 2)
    (r, shiftedFlags c r (v.getLsbD 0)) := by
  funext v c
  rw [ofNat_toNat_div_two]
  rfl

/-- The place that the old carry enters is bit 0, which the shift to the left cleared. -/
theorem rotateLeft_eq : rotateLeft = fun v c =>
    let r := BitVec.ofNat 8 (v.toNat * 2 + c.c.toNat)
    (r, shiftedFlags c r (v.getLsbD 7)) := by
  funext v c
  have hclear : (v <<< 1).getLsbD 0 = false := by simp
  have hentered :
      (v <<< 1 ||| if c.c then (1 : Byte) else 0) = v <<< 1 + BitVec.ofNat 8 (c.c.toNat * 1) :=
    or_twoPow_eq_add hclear c.c
  rw [Nat.mul_one] at hentered
  rw [BitVec.ofNat_add, ofNat_toNat_mul_two, ← hentered]
  rfl

/-- The place that the old carry enters is bit 7, which the shift to the right cleared. -/
theorem rotateRight_eq : rotateRight = fun v c =>
    let r := BitVec.ofNat 8 (v.toNat / 2 + c.c.toNat * 128)
    (r, shiftedFlags c r (v.getLsbD 0)) := by
  funext v c
  have hclear : (v >>> 1).getLsbD 7 = false := by simp
  have hentered :
      (v >>> 1 ||| if c.c then (0x80 : Byte) else 0) = v >>> 1 + BitVec.ofNat 8 (c.c.toNat * 128) :=
    or_twoPow_eq_add hclear c.c
  rw [BitVec.ofNat_add, ofNat_toNat_div_two, ← hentered]
  rfl

/-! ### One shape for every mode -/

theorem exec_lslOf (m : RmwAddr) (s : State) :
    exec (.lslOf m) s = modifyMemory shiftLeft m.addr s := by
  cases m <;> rfl

theorem exec_asrOf (m : RmwAddr) (s : State) :
    exec (.asrOf m) s = modifyMemory arithmeticShiftRight m.addr s := by
  cases m <;> rfl

theorem exec_lsrOf (m : RmwAddr) (s : State) :
    exec (.lsrOf m) s = modifyMemory logicalShiftRight m.addr s := by
  cases m <;> rfl

theorem exec_rolOf (m : RmwAddr) (s : State) :
    exec (.rolOf m) s = modifyMemory rotateLeft m.addr s := by
  cases m <;> rfl

theorem exec_rorOf (m : RmwAddr) (s : State) :
    exec (.rorOf m) s = modifyMemory rotateRight m.addr s := by
  cases m <;> rfl

end Sys2Proof.Machine
end

-- ==== Proofs: the obligation of 44_shift_rotate.md ====
section
/-!
PROOF. The obligation about shifts and rotates, settled from the layers above.
-/

namespace Sys2Proof.Settled

open Sys2Proof.Machine

/-- Settles O46: each family applies one byte function, which is the number the diagram gives. -/
theorem shiftsAndRotates : Obligations.ShiftsAndRotates := by
  rw [Obligations.ShiftsAndRotates, ← shiftLeft_eq, ← arithmeticShiftRight_eq,
    ← logicalShiftRight_eq, ← rotateLeft_eq, ← rotateRight_eq]
  exact ⟨.of_exec exec_lslOf, .of_exec exec_asrOf, .of_exec exec_lsrOf, .of_exec exec_rolOf,
    .of_exec exec_rorOf⟩

end Sys2Proof.Settled
end

-- ==== Proofs: the signed relation in the flags of a difference ====
section
/-!
PROOF. What the flags of a difference say of its two operands (45_branch.md R351): `Z` that they are
equal, `C` that the first is the lower as an unsigned number, and `N` xor `V` that it is the lower as a
signed number. The last holds because the signed relation is the unsigned one turned over when the signs
differ, and the unsigned one is the borrow.
-/

namespace Sys2Proof.Machine

/-- The signs and the borrow decide what the sign of the difference and the overflow decide. -/
theorem signs_xor_borrowOfDifference (a m r : Bool) :
    ((a != m) ^^ borrowOfDifference a m r) = (r ^^ overflowOfDifference a m r) := by
  revert a m r
  decide

/-- The sign of the difference, corrected by the overflow, is the signed relation. -/
theorem sign_xor_overflowOfDifference {w : Nat} (a m : BitVec (w + 1)) :
    ((a - m).getLsbD w ^^ overflowOfDifference (a.getLsbD w) (m.getLsbD w) ((a - m).getLsbD w)) =
      decide (a.toInt < m.toInt) := by
  have hborrow : borrowOfDifference (a.getLsbD w) (m.getLsbD w) ((a - m).getLsbD w) = a.ult m := by
    simpa [BitVec.ult_eq_decide] using borrowOfDifference_getLsbD a m false
  rw [← signs_xor_borrowOfDifference, hborrow, ← BitVec.slt_eq_decide, BitVec.slt_eq_ult,
    BitVec.msb_eq_getLsbD_last, BitVec.msb_eq_getLsbD_last, Nat.add_sub_cancel]

/-- With no borrow in, the difference is that of the operands alone. -/
theorem sub_noBorrow (a m : Byte) : (a - m - if false then 1 else 0) = a - m := by
  rw [if_neg Bool.false_ne_true, BitVec.ofNat_eq_ofNat, BitVec.sub_zero]

theorem sub8_z (c : Ccr) (a m : Byte) : (sub8 c a m false).2.z = decide (a = m) := by
  have hz : (sub8 c a m false).2.z = decide ((sub8 c a m false).1 = 0) := rfl
  rw [hz, sub8_fst, sub_noBorrow, decide_eq_decide]
  exact sub_eq_zero

theorem sub8_c (c : Ccr) (a m : Byte) : (sub8 c a m false).2.c = decide (a.toNat < m.toNat) := rfl

theorem sub8_n_xor_v (c : Ccr) (a m : Byte) :
    ((sub8 c a m false).2.n ^^ (sub8 c a m false).2.v) = decide (a.toInt < m.toInt) := by
  rw [sub8_snd, ← sign_xor_overflowOfDifference, differenceFlags, sub_noBorrow]

/-! ### Relations made of those -/

/-- A test for equality or for "lower" is a test for "lower or the same", in any order in which the
operands are ranked without ties. -/
theorem or_decide_eq_decide_le {α β : Type} [DecidableEq α] [LinearOrder β] {rank : α → β}
    {a m : α} (hrank : rank a = rank m ↔ a = m) :
    (decide (a = m) || decide (rank a < rank m)) = decide (rank a ≤ rank m) := by
  rw [← Bool.decide_or, decide_eq_decide, le_iff_eq_or_lt, hrank]

/-- The opposite of a test decides the opposite of its relation. -/
theorem not_eq_decide {p q : Prop} [Decidable p] [Decidable q] {test : Bool}
    (h : test = decide p) (hpq : ¬p ↔ q) : (!test) = decide q := by
  rw [h, ← decide_not, decide_eq_decide, hpq]

end Sys2Proof.Machine
end

-- ==== Proofs: branches whose accesses complete ====
section
/-!
PROOF. Every branch ends in `branchIf` with its test (45_branch.md R350): the forms in which the
obligations give the state after it, and the state in which each shape of branch with a memory operand
completes (R380 to R392).
-/

namespace Sys2Proof.Machine

/-! ### Taken and not taken (R350) -/

theorem byteAt_branchIf (b : Bool) (rr : Byte) (s : State) (a : Word) :
    (branchIf b rr s).byteAt a = s.byteAt a :=
  byteAt_congr (branchIf_mem ..) (branchIf_device ..) (branchIf_powerLosses ..) a

/-- The target as a signed displacement of the next instruction's address. -/
theorem branchIf_signed (b : Bool) (rr : Byte) (s : State) :
    branchIf b rr s = if b then { s with pc := BitVec.ofInt 16 (s.pc.toNat + rr.toInt) } else s := by
  rw [branchIf, target, add_sext16]

theorem branchIf_of_iff {b : Bool} {p : Prop} [Decidable p] (h : b = true ↔ p) (rr : Byte)
    (s : State) : branchIf b rr s = { s with pc := if p then s.pc + sext16 rr else s.pc } := by
  simp only [← h]
  cases b <;> rfl

theorem branchIf_of_iff_not {b : Bool} {p : Prop} [Decidable p] (h : b = true ↔ ¬p) (rr : Byte)
    (s : State) : branchIf b rr s = { s with pc := if p then s.pc else s.pc + sext16 rr } := by
  rw [branchIf_of_iff h, ite_not]

/-- A branch that makes no access completes, whatever its test answers. -/
theorem Completes.of_branchIf {i : Instr} {b : Bool} {rr : Byte} {s : State}
    (hexec : exec i s = .next (branchIf b rr s)) :
    Completes i s
      (if b then { s with pc := BitVec.ofInt 16 (s.pc.toNat + rr.toInt) } else s) := by
  rw [← branchIf_signed]
  exact ⟨hexec, byteAt_branchIf b rr s⟩

/-- A branch whose test decides a relation branches when the relation holds. -/
theorem exec_eq_of_decides {i : Instr} {test relation : Bool} {rr : Byte} {s : State}
    (hexec : exec i s = .next (branchIf test rr s)) (hdecides : test = relation) :
    exec i s = .next (if relation then { s with pc := s.pc + rr.signExtend 16 } else s) := by
  rwa [hdecides] at hexec

/-! ### One shape for every mode -/

/-- The bit number in the opcode is the number of the bit tested. -/
theorem exec_brsetOf (n : Fin 8) (dd rr : Byte) (s : State) :
    exec (.brsetOf n dd rr) s = bitBranch n true dd rr s := by
  fin_cases n <;> rfl

theorem exec_brclrOf (n : Fin 8) (dd rr : Byte) (s : State) :
    exec (.brclrOf n dd rr) s = bitBranch n false dd rr s := by
  fin_cases n <;> rfl

theorem exec_dbnzOf (m : RmwAddr) (rr : Byte) (s : State) :
    exec (.dbnzOf m rr) s = decrementBranch m.addr rr s := by
  cases m <;> rfl

/-! ### Branches on a byte of memory -/

theorem bitBranch_ok {n : Nat} {when : Bool} {dd rr v : Byte} {s s1 : State}
    (h : busRead (zext16 dd) s = .ok v s1) :
    bitBranch n when dd rr s = .next
      (branchIf (v.getLsbD n == when) rr { s1 with ccr := { s1.ccr with c := v.getLsbD n } }) := by
  rw [bitBranch, h, Bus.andThen_ok, finish_ok]

theorem compareBranch_ok {m : Addr} {rr v : Byte} {s s1 : State}
    (h : busRead (effectiveAddress m s) s = .ok v s1) :
    compareBranch m rr s =
      .next { s1 with pc := if s1.a = v then s1.pc + sext16 rr else s1.pc } := by
  rw [compareBranch, h, Bus.andThen_ok, finish_ok, branchIf_of_iff beq_iff_eq]

/-- `HX` is incremented whether or not the branch is taken. -/
theorem compareBranchInc_ok {m : Addr} {rr v : Byte} {s s1 : State}
    (h : busRead (effectiveAddress m s) s = .ok v s1) :
    compareBranchInc m rr s = .next
      { s1 with
        h := hiByte (s1.hx + 1), x := loByte (s1.hx + 1)
        pc := if s1.a = v then s1.pc + sext16 rr else s1.pc } := by
  rw [compareBranchInc, h, Bus.andThen_ok, finish_ok, branchIf_of_iff beq_iff_eq]
  rfl

/-- The byte less one is not zero exactly when the byte is not 1. -/
theorem decremented_ne_zero_iff (v : Byte) : (v - 1 != 0) = true ↔ ¬v = 1 :=
  bne_iff_ne.trans sub_ne_zero

theorem decrementBranch_ok {m : Addr} {rr v : Byte} {s s1 s2 : State}
    (hread : busRead (effectiveAddress m s) s = .ok v s1)
    (hwrite : busWrite (effectiveAddress m s) (v - 1) s1 = .ok () s2) :
    decrementBranch m rr s =
      .next { s2 with pc := if v = 1 then s2.pc else s2.pc + sext16 rr } := by
  rw [decrementBranch, hread, Bus.andThen_ok, hwrite, Bus.andThen_ok, finish_ok,
    branchIf_of_iff_not (decremented_ne_zero_iff v)]

theorem ReadClaim.of_exec {i : Instr} {ea : State → Word} {result : Byte → State → State}
    (hexec : ∀ {v s s1}, busRead (ea s) s = .ok v s1 → exec i s = .next (result v s1))
    (hbytes : ∀ v t b, (result v t).byteAt b = t.byteAt b := by exact fun _ _ _ => rfl) :
    ReadClaim i ea result := fun v _ s1 hread =>
  have hframe := busRead_ok hread
  ⟨.of_readFrame (hexec hread) hframe (hbytes v s1), hframe⟩

end Sys2Proof.Machine
end

-- ==== Proofs: the obligations of 45_branch.md ====
section
/-!
PROOF. The obligations about branches, settled from the layers above.
-/

namespace Sys2Proof.Settled

open Sys2Proof.Machine

/-- Settles O36: the ten tests, each traced to what `Z`, `C` and `N` xor `V` of the difference say. -/
theorem branchesAfterCompare : Obligations.BranchesAfterCompare := by
  intro op m rr s s1 t hread hcmp
  have hccr : t.ccr = (sub8 s1.ccr s.a m false).2 := by
    rw [exec_cmpOf, compareWith_ok hread, (readOperand_ok hread).a] at hcmp
    cases hcmp
    rfl
  have heq : t.ccr.z = decide (s.a = m) := by rw [hccr, sub8_z]
  have hlower : t.ccr.c = decide (s.a.toNat < m.toNat) := by rw [hccr, sub8_c]
  have hless : (t.ccr.n ^^ t.ccr.v) = decide (s.a.toInt < m.toInt) := by rw [hccr, sub8_n_xor_v]
  have hlowerOrSame : (t.ccr.c || t.ccr.z) = decide (s.a.toNat ≤ m.toNat) := by
    rw [Bool.or_comm, heq, hlower, or_decide_eq_decide_le BitVec.toNat_inj]
  have hlessOrEqual : (t.ccr.z || (t.ccr.n ^^ t.ccr.v)) = decide (s.a.toInt ≤ m.toInt) := by
    rw [heq, hless, or_decide_eq_decide_le BitVec.toInt_inj]
  exact ⟨exec_eq_of_decides rfl (not_eq_decide hlessOrEqual not_le),
    exec_eq_of_decides rfl (not_eq_decide hless not_lt),
    exec_eq_of_decides rfl hlessOrEqual,
    exec_eq_of_decides rfl hless,
    exec_eq_of_decides rfl (not_eq_decide hlowerOrSame not_le),
    exec_eq_of_decides rfl (not_eq_decide hlower not_lt),
    exec_eq_of_decides rfl hlowerOrSame,
    exec_eq_of_decides rfl hlower,
    exec_eq_of_decides rfl heq,
    exec_eq_of_decides rfl (not_eq_decide heq Iff.rfl)⟩

/-- Settles O47: the tests stand in the model as in the statement, but those of `BHI`, `BGE` and `BGT`,
which are negations there. -/
theorem relativeBranches : Obligations.RelativeBranches := by
  intro rr s go c
  have hbhi : Completes (.bhi rr) s (go (!c.c && !c.z)) := by
    rw [← Bool.not_or]
    exact .of_branchIf rfl
  have hbge : Completes (.bge rr) s (go (c.n == c.v)) := by
    rw [← Bool.not_not (c.n == c.v)]
    exact .of_branchIf rfl
  have hbgt : Completes (.bgt rr) s (go (!c.z && c.n == c.v)) := by
    rw [← Bool.not_not (c.n == c.v), ← Bool.not_or]
    exact .of_branchIf rfl
  exact ⟨.of_branchIf (b := true) rfl, .of_branchIf (b := false) rfl, hbhi, .of_branchIf rfl,
    .of_branchIf rfl, .of_branchIf rfl, .of_branchIf rfl, .of_branchIf rfl, .of_branchIf rfl,
    .of_branchIf rfl, .of_branchIf rfl, .of_branchIf rfl, .of_branchIf rfl, .of_branchIf rfl,
    hbge, .of_branchIf rfl, hbgt, .of_branchIf rfl, .of_branchIf rfl, .of_branchIf rfl⟩

/-- Settles O48: `C` takes the bit before the branch, which then tests that bit. -/
theorem bitTestBranches : Obligations.BitTestBranches := by
  refine fun n dd rr =>
    ⟨.of_exec fun {v s s1} hread => ?brset, .of_exec fun {v s s1} hread => ?brclr⟩
  case brset =>
    rw [exec_brsetOf, bitBranch_ok hread, branchIf_of_iff beq_iff_eq]
    rfl
  case brclr =>
    have hclear : (v.getLsbD n == false) = true ↔ ¬v.getLsbD n = true := by
      rw [beq_iff_eq, Bool.not_eq_true]
    rw [exec_brclrOf, bitBranch_ok hread, branchIf_of_iff_not hclear]
    rfl

/-- Settles O49: on memory the one read; on a register no access at all. -/
theorem compareBranches : Obligations.CompareBranches :=
  ⟨fun _ _ => .of_exec compareBranch_ok, fun _ _ => .of_exec compareBranch_ok,
    fun _ _ => .of_exec compareBranchInc_ok, fun _ => .of_exec compareBranchInc_ok,
    fun _ rr s => ⟨congrArg _ (branchIf_of_iff beq_iff_eq rr s), fun _ => rfl⟩,
    fun _ rr s => ⟨congrArg _ (branchIf_of_iff beq_iff_eq rr s), fun _ => rfl⟩⟩

/-- Settles O50: the test is made on the byte written back, which is zero when the byte read was 1. -/
theorem decrementBranches : Obligations.DecrementBranches :=
  ⟨fun m rr => .of_exec fun hread hwrite =>
      (exec_dbnzOf m rr _).trans (decrementBranch_ok hread hwrite),
    fun rr s => ⟨congrArg _ (branchIf_of_iff_not (decremented_ne_zero_iff s.a) rr _), fun _ => rfl⟩,
    fun rr s => ⟨congrArg _ (branchIf_of_iff_not (decremented_ne_zero_iff s.x) rr _), fun _ => rfl⟩⟩

end Sys2Proof.Settled
end

-- ==== Proofs: jumps and subroutines whose accesses complete ====
section
/-!
PROOF. The state in which jumps, calls and returns complete (46_jump_subroutine.md R400 to R404).
Every `JSR` and `BSR` is `callSubroutine` with its own destination, so what a call does is shown once.
-/

namespace Sys2Proof.Machine

/-! ### One shape for every mode -/

theorem exec_jmpOf (m : JumpAddr) (s : State) :
    exec (.jmpOf m) s = .next { s with pc := effectiveAddress m.addr s } := by
  cases m <;> rfl

theorem exec_jsrOf (m : JumpAddr) (s : State) :
    exec (.jsrOf m) s = callSubroutine (effectiveAddress m.addr s) s := by
  cases m <;> rfl

theorem exec_bsr (rr : Byte) (s : State) : exec (.bsr rr) s = callSubroutine (s.pc + sext16 rr) s :=
  rfl

/-! ### Calls and returns -/

theorem callSubroutine_ok {destination : Word} {s s1 s2 : State}
    (hlow : busWrite s.sp (loByte s.pc) s = .ok () s1)
    (hhigh : busWrite (s.sp - 1) (hiByte s.pc) s1 = .ok () s2) :
    callSubroutine destination s = .next { s2 with sp := s.sp - 2, pc := destination } := by
  rw [callSubroutine, pushWord_ok hlow hhigh, Bus.andThen_ok, finish_ok]

theorem exec_rts_ok {hi lo : Byte} {s s1 s2 : State} (hhigh : busRead (s.sp + 1) s = .ok hi s1)
    (hlow : busRead (s.sp + 2) s1 = .ok lo s2) :
    exec .rts s = .next { s2 with sp := s.sp + 2, pc := wordOf hi lo } := by
  show execRts s = _
  rw [execRts, pullWord_ok hhigh hlow, Bus.andThen_ok, finish_ok]

/-- Two writes at different addresses, in whichever order, leave both bytes standing. -/
theorem busWrite_busWrite_ok {a b : Word} {v w : Byte} {s s1 s2 : State} (hab : a ≠ b)
    (h1 : busWrite a v s = .ok () s1) (h2 : busWrite b w s1 = .ok () s2) :
    WriteFrame [a, b] s s2 ∧ Stored a v s s2 ∧ Stored b w s s2 := by
  obtain ⟨hframe1, hstored1⟩ := busWrite_ok h1
  obtain ⟨hframe2, hstored2⟩ := busWrite_ok h2
  exact ⟨hframe1.trans hframe2, hstored1.before hframe2 (List.mem_singleton.not.mpr hab),
    hstored2.after hframe1 (List.mem_singleton.not.mpr hab.symm)⟩

end Sys2Proof.Machine
end

-- ==== Proofs: the obligation of 46_jump_subroutine.md ====
section
/-!
PROOF. The obligation about jumps and subroutines, settled from the layers above.
-/

namespace Sys2Proof.Settled

open Sys2Proof.Machine

/-- Settles O52: a jump makes no access, a call makes the two writes of `callSubroutine`, at
different addresses, and a return makes two reads. -/
theorem jumpsAndCalls : Obligations.JumpsAndCalls := by
  refine ⟨fun m s => ⟨exec_jmpOf m s, fun _ => rfl⟩,
    fun i destination hform s s1 s2 hlow hhigh => ?call, fun s s1 s2 hi lo hhigh hlow => ?rts⟩
  case call =>
    have hcall : exec i s = callSubroutine (destination s) s := by
      obtain ⟨m, rfl, rfl⟩ | ⟨rr, rfl, rfl⟩ := hform
      · exact exec_jsrOf m s
      · exact exec_bsr rr s
    have hne : s.sp ≠ s.sp - 1 := by bv_omega
    obtain ⟨hframe, hstored⟩ := busWrite_busWrite_ok hne hlow hhigh
    exact ⟨.of_writeFrame (hcall.trans (callSubroutine_ok hlow hhigh)) hframe, hframe, hstored⟩
  case rts =>
    have hframe := (busRead_ok hhigh).trans (busRead_ok hlow)
    exact ⟨.of_readFrame (exec_rts_ok hhigh hlow) hframe, hframe⟩

end Sys2Proof.Settled
end

-- ==== Proofs: pushes and pulls whose access completes ====
section
/-!
PROOF. The state in which a push and a pull complete (47_stack_transfer.md R420, R421). The three
pushes differ in the register they write, the three pulls in the register they load, so each claim is
shown once for all three.
-/

namespace Sys2Proof.Machine

theorem ReadFrame.sp {s t : State} (h : ReadFrame s t) : t.sp = s.sp := by
  rw [h.1]

theorem WriteFrame.sp {l : List Word} {s t : State} (h : WriteFrame l s t) : t.sp = s.sp := by
  rw [h.1]

theorem WriteClaim.of_push {i : Instr} {register : State → Byte}
    (hexec : ∀ s, exec i s = finish (push8 (register s) s)) :
    WriteClaim i State.sp register (fun t => { t with sp := t.sp - 1 }) :=
  .of_exec fun {s s1} hwrite => by
    rw [hexec, push8_ok hwrite, finish_ok, (busWrite_ok hwrite).1.sp]

/-- The load comes after the read, and what it changes is a register, not memory. -/
theorem ReadClaim.of_pull {i : Instr} (load : Byte → State → State)
    (hexec : ∀ s, exec i s = finish ((pull8 s).andThen fun v t => .ok () (load v t)))
    (hbytes : ∀ v t b, (load v t).byteAt b = t.byteAt b := by exact fun _ _ _ => rfl) :
    ReadClaim i (fun s => s.sp + 1) (fun v t => load v { t with sp := t.sp + 1 }) :=
  .of_exec
    (fun {v s s1} hread => by
      rw [hexec, pull8_ok hread, Bus.andThen_ok, finish_ok, (busRead_ok hread).sp])
    (fun v t b => hbytes v { t with sp := t.sp + 1 } b)

end Sys2Proof.Machine
end

-- ==== Proofs: the obligations of 47_stack_transfer.md ====
section
/-!
PROOF. The obligations about pushes, pulls and transfers, settled from the layers above.
-/

namespace Sys2Proof.Settled

open Sys2Proof.Machine

/-- Settles O53: a push is the one write at `SP`, a pull the one read above it. -/
theorem pushAndPull : Obligations.PushAndPull :=
  ⟨.of_push fun _ => rfl, .of_push fun _ => rfl, .of_push fun _ => rfl,
    .of_pull (fun v t => { t with a := v }) fun _ => rfl,
    .of_pull (fun v t => { t with h := v }) fun _ => rfl,
    .of_pull (fun v t => { t with x := v }) fun _ => rfl⟩

/-- Settles O54: no transfer makes an access, and the two bytes `TSX` loads make up `SP + 1`. -/
theorem transfers : Obligations.Transfers :=
  ⟨fun s => ⟨s.setHx (s.sp + 1), ⟨rfl, fun _ => rfl⟩, hx_setHx (s.sp + 1) s, rfl⟩,
    fun _ => ⟨rfl, fun _ => rfl⟩, fun _ => ⟨rfl, fun _ => rfl⟩, fun _ => ⟨rfl, fun _ => rfl⟩⟩

end Sys2Proof.Settled
end

-- ==== Proofs: vector addresses ====
section
/-!
PROOF. The vector addresses as numbers (60_exceptions.md R507, R508). Every vector stands on page
`$FF`, so in monitor mode, with address bit A8 forced to 0, it stands at the same place of page
`$FE`.
-/

namespace Sys2Proof.Machine

/-- Bit by bit: A8 is 0, every other address bit is kept. -/
theorem getLsbD_vectorAddress (v : Word) (k : Nat) :
    (vectorAddress true v).getLsbD k = (v.getLsbD k && decide (k ≠ 8)) := by
  rw [vectorAddress, if_pos rfl, BitVec.getLsbD_and]
  rcases Nat.lt_or_ge k 16 with hk | hk
  · have hmask : ∀ k < 16, (0xFEFF : Word).getLsbD k = decide (k ≠ 8) := by decide
    rw [hmask k hk]
  · rw [BitVec.getLsbD_of_ge v k hk, Bool.false_and, Bool.false_and]

/-- On page `$FF` forcing A8 to 0 is going down one page. -/
theorem vectorAddress_toNat {v : Word} (hv : 0xFF00 ≤ v.toNat) :
    (vectorAddress true v).toNat = v.toNat - 0x100 := by
  have hpage : hiByte v = 0xFF := by
    apply BitVec.eq_of_toNat_eq
    have := v.isLt
    rw [hiByte_toNat]
    show v.toNat / 256 = 255
    omega
  have hmoved : vectorAddress true v = wordOf 0xFE (loByte v) := by
    rw [← wordOf_hi_lo v, hpage, loByte_wordOf]
    show (0xFF ++ loByte v : Word) &&& (0xFE#8 ++ 0xFF#8) = 0xFE ++ loByte v
    rw [BitVec.and_append]
    exact congrArg (0xFE#8 ++ ·) BitVec.and_allOnes
  rw [hmoved, wordOf_toNat, loByte_toNat]
  show 254 * 256 + _ = _
  have := v.isLt
  omega

/-- The linear rule of R507. -/
theorem ireqVector_toNat {n : Nat} (hn : n ≤ 125) : (ireqVector n).toNat = 0xFFFA - 2 * n := by
  rw [ireqVector]
  bv_omega

theorem vectorAddress_ireqVector_toNat {n : Nat} (hn : n ≤ 125) :
    (vectorAddress true (ireqVector n)).toNat = 0xFEFA - 2 * n := by
  have h := ireqVector_toNat hn
  rw [vectorAddress_toNat (by omega), h]
  omega

/-- Where request `n` finds its vector in either mode. -/
theorem vectorAddress_ireqVector {n : Nat} (hn : n ≤ 125) (monitorMode : Bool) :
    vectorAddress monitorMode (ireqVector n) =
      (if monitorMode then 0xFEFA else 0xFFFA) - BitVec.ofNat 16 (2 * n) := by
  cases monitorMode with
  | false => rfl
  | true =>
    apply BitVec.eq_of_toNat_eq
    rw [vectorAddress_ireqVector_toNat hn, if_pos rfl]
    bv_omega

theorem vectorAddress_swiVector (monitorMode : Bool) :
    vectorAddress monitorMode swiVector = if monitorMode then 0xFEFC else 0xFFFC := by
  cases monitorMode <;> rfl

theorem vectorAddress_resetVector (monitorMode : Bool) :
    vectorAddress monitorMode resetVector = if monitorMode then 0xFEFE else 0xFFFE := by
  cases monitorMode <;> rfl

end Sys2Proof.Machine
end

-- ==== Proofs: exceptions whose accesses complete ====
section
/-!
PROOF. Taking an exception and returning from one (48_control_system.md R461, R462, 60_exceptions.md
R530 to R533). `SWI` and the interrupt entries are one sequence of accesses, so the claim about it
is shown once; five writes at five addresses leave all five bytes standing.
-/

namespace Sys2Proof.Machine

/-- Reads touch no byte of memory, so they may follow writes. -/
theorem WriteFrame.thenRead {l : List Word} {s t u : State} (h : WriteFrame l s t)
    (hread : ReadFrame t u) : WriteFrame l s u :=
  ⟨by rw [hread.1, h.1], fun b hb => (hread.2 b).trans (h.2 b hb)⟩

/-- The record of the bytes just written is no byte of memory. -/
theorem WriteFrame.ofRecent {l : List Word} {s t : State} {r : List Written}
    (h : WriteFrame l { s with recent := r } t) : WriteFrame l s t := h

theorem Stored.ofRecent {a : Word} {v : Byte} {s t : State} {r : List Written}
    (h : Stored a v { s with recent := r } t) : Stored a v s t := h

/-- A byte stored between writes elsewhere. -/
theorem Stored.between {a : Word} {v : Byte} {l k : List Word} {s t u w : State}
    (hearlier : WriteFrame l s t) (h : Stored a v t u) (hlater : WriteFrame k u w) (hl : a ∉ l)
    (hk : a ∉ k) : Stored a v s w :=
  (h.after hearlier hl).before hlater hk

/-- Five writes downward from `p` leave the five bytes standing and touch no other. -/
theorem fiveWrites_ok {p : Word} {v1 v2 v3 v4 v5 : Byte} {s s1 s2 s3 s4 s5 : State}
    (h1 : busWrite p v1 s = .ok () s1) (h2 : busWrite (p - 1) v2 s1 = .ok () s2)
    (h3 : busWrite (p - 2) v3 s2 = .ok () s3) (h4 : busWrite (p - 3) v4 s3 = .ok () s4)
    (h5 : busWrite (p - 4) v5 s4 = .ok () s5) :
    WriteFrame [p, p - 1, p - 2, p - 3, p - 4] s s5 ∧
    Stored p v1 s s5 ∧ Stored (p - 1) v2 s s5 ∧ Stored (p - 2) v3 s s5 ∧ Stored (p - 3) v4 s s5 ∧
    Stored (p - 4) v5 s s5 := by
  obtain ⟨f1, b1⟩ := busWrite_ok h1
  obtain ⟨f2, b2⟩ := busWrite_ok h2
  obtain ⟨f3, b3⟩ := busWrite_ok h3
  obtain ⟨f4, b4⟩ := busWrite_ok h4
  obtain ⟨f5, b5⟩ := busWrite_ok h5
  have f12 := f1.trans f2
  have f123 := f12.trans f3
  have f1234 := f123.trans f4
  have f45 := f4.trans f5
  have f345 := f3.trans f45
  exact ⟨f1234.trans f5, b1.before (f2.trans f345) (by simp [eq_sub_iff_add_eq]),
    .between f1 b2 f345 (by simp) (by simp), .between f12 b3 f45 (by simp) (by simp),
    .between f123 b4 f5 (by simp) (by simp), b5.after f1234 (by simp)⟩

/-- What starts by taking an exception meets the claim about it; what precedes the first write may
change the record of the bytes just written. -/
theorem EntryClaim.of_takeException {enter : State → Result} {start : State → State}
    {vector : State → Word} {u : Word}
    (henter : ∀ s, enter s = finish (takeException u (start s)))
    (hstart : ∀ s, ∃ r, start s = { s with recent := r })
    (hvector : ∀ s, vector s = vectorAddress s.monitorMode u) : EntryClaim enter start vector := by
  intro s s1 s2 s3 s4 s5 s6 s7 hi lo h1 h2 h3 h4 h5 h6 h7
  have hentered := henter s
  obtain ⟨r, hr⟩ := hstart s
  rw [hr] at h1 hentered
  have htaken := takeException_ok (s := { s with recent := r }) (hvector s) h1 h2 h3 h4 h5 h6 h7
  have hread := (busRead_ok h6).trans (busRead_ok h7)
  have hlater : WriteFrame [] s5 s7 := .thenRead ⟨rfl, fun _ _ => rfl⟩ hread
  obtain ⟨hframe, b1, b2, b3, b4, b5⟩ := fiveWrites_ok h1 h2 h3 h4 h5
  refine ⟨by rw [hentered, htaken, finish_ok], (hframe.thenRead hread).ofRecent, ?_⟩
  exact ⟨(b1.before hlater (by simp)).ofRecent, (b2.before hlater (by simp)).ofRecent,
    (b3.before hlater (by simp)).ofRecent, (b4.before hlater (by simp)).ofRecent,
    (b5.before hlater (by simp)).ofRecent⟩

/-- `SWI` (48_control_system.md R461). -/
theorem entryClaim_swi :
    EntryClaim (exec .swi) id (fun s => if s.monitorMode then 0xFEFC else 0xFFFC) :=
  .of_takeException (fun _ => rfl) (fun s => ⟨s.recent, rfl⟩)
    fun s => (vectorAddress_swiVector s.monitorMode).symm

/-- The entry of request `n` (60_exceptions.md R530). -/
theorem entryClaim_interruptEntry {n : Nat} (hn : n ≤ 125) :
    EntryClaim (fun s => finish (interruptEntry n s)) (fun s => { s with recent := [] })
      (fun s => (if s.monitorMode then 0xFEFA else 0xFFFA) - BitVec.ofNat 16 (2 * n)) :=
  .of_takeException (fun _ => rfl) (fun _ => ⟨[], rfl⟩)
    fun s => (vectorAddress_ireqVector hn s.monitorMode).symm

/-- `RTI` whose five reads complete (48_control_system.md R462). -/
theorem exec_rti_ok {c a x hi lo : Byte} {s s1 s2 s3 s4 s5 : State}
    (h1 : busRead (s.sp + 1) s = .ok c s1) (h2 : busRead (s.sp + 2) s1 = .ok a s2)
    (h3 : busRead (s.sp + 3) s2 = .ok x s3) (h4 : busRead (s.sp + 4) s3 = .ok hi s4)
    (h5 : busRead (s.sp + 5) s4 = .ok lo s5) :
    exec .rti s = .next
      { s5 with a := a, x := x, sp := s.sp + 5, pc := wordOf hi lo, ccr := loadCcr c } := by
  show execRti s = _
  rw [execRti, returnFromException_ok h1 h2 h3 h4 h5, finish_ok]

/-- An access of a machine that nothing can cut short completes and leaves it so. -/
theorem busWrite_of_uncut {s : State} (h : Uncut s) (a : Word) (v : Byte) :
    ∃ t, busWrite a v s = .ok () t ∧ Uncut t := by
  have hleads := uncut_kept.write a v s h
  cases hb : busWrite a v s with
  | ok u t => exact ⟨t, rfl, by rwa [hb] at hleads⟩
  | cut r t => rw [hb] at hleads; exact hleads.elim

theorem busRead_of_uncut {s : State} (h : Uncut s) (a : Word) :
    ∃ v t, busRead a s = .ok v t ∧ Uncut t := by
  have hleads := uncut_kept.read a s h
  cases hb : busRead a s with
  | ok v t => exact ⟨v, t, rfl, by rwa [hb] at hleads⟩
  | cut r t => rw [hb] at hleads; exact hleads.elim

/-- RAM and ROM of a machine that nothing can cut short are read as they stand. -/
theorem busRead_ram_of_uncut {s : State} (h : Uncut s) {a : Word}
    (hram : regionKind s.device a = .ram) : busRead a s = .ok (s.byteAt a) s :=
  have hlegal : isIllegal s.device a = false := by rw [isIllegal, h.2]; rfl
  busRead_memory ⟨h.1, hlegal⟩ ⟨.inl hram, hlegal⟩

/-- `RTI` pulls what stands in five bytes of RAM. -/
theorem exec_rti_ram {s : State} (h : Uncut s) {p : Word} (hp : s.sp = p - 5)
    (hram : ∀ k, k ≤ 4 → regionKind s.device (p - BitVec.ofNat 16 k) = .ram) :
    exec .rti s = .next { s with
      a := s.byteAt (p - 3), x := s.byteAt (p - 2), sp := p
      pc := wordOf (s.byteAt (p - 1)) (s.byteAt p), ccr := loadCcr (s.byteAt (p - 4)) } := by
  have hread : ∀ k, k ≤ 4 → busRead (p - BitVec.ofNat 16 k) s =
      .ok (s.byteAt (p - BitVec.ofNat 16 k)) s := fun k hk => busRead_ram_of_uncut h (hram k hk)
  have e1 : s.sp + 1 = p - 4 := by rw [hp]; bv_omega
  have e2 : s.sp + 2 = p - 3 := by rw [hp]; bv_omega
  have e3 : s.sp + 3 = p - 2 := by rw [hp]; bv_omega
  have e4 : s.sp + 4 = p - 1 := by rw [hp]; bv_omega
  have e5 : s.sp + 5 = p := by rw [hp]; bv_omega
  have e0 : p - BitVec.ofNat 16 0 = p := by bv_omega
  have hlast := hread 0 (by omega)
  rw [e0] at hlast
  rw [exec_rti_ok (e1 ▸ hread 4 (by omega)) (e2 ▸ hread 3 (by omega)) (e3 ▸ hread 2 (by omega))
    (e4 ▸ hread 1 (by omega)) (e5 ▸ hlast), e1, e2, e3, e4, e5]

/-- What `SWI` stacks in five bytes of RAM, and what it leaves (60_exceptions.md R532). -/
theorem exec_swi_ram {s : State} (h : Uncut s)
    (hram : ∀ k, k ≤ 4 → regionKind s.device (s.sp - BitVec.ofNat 16 k) = .ram) :
    ∃ t, exec .swi s = .next t ∧ Uncut t ∧ t.device = s.device ∧ t.h = s.h ∧ t.run = s.run ∧
      t.iWindow = none ∧ t.sp = s.sp - 5 ∧ t.byteAt s.sp = loByte s.pc ∧
      t.byteAt (s.sp - 1) = hiByte s.pc ∧ t.byteAt (s.sp - 2) = s.x ∧
      t.byteAt (s.sp - 3) = s.a ∧ t.byteAt (s.sp - 4) = ccrByte s.ccr := by
  obtain ⟨s1, h1, u1⟩ := busWrite_of_uncut h s.sp (loByte s.pc)
  obtain ⟨s2, h2, u2⟩ := busWrite_of_uncut u1 (s.sp - 1) (hiByte s.pc)
  obtain ⟨s3, h3, u3⟩ := busWrite_of_uncut u2 (s.sp - 2) s.x
  obtain ⟨s4, h4, u4⟩ := busWrite_of_uncut u3 (s.sp - 3) s.a
  obtain ⟨s5, h5, u5⟩ := busWrite_of_uncut u4 (s.sp - 4) (ccrByte s.ccr)
  obtain ⟨hi, s6, h6, u6⟩ := busRead_of_uncut u5 (if s.monitorMode then 0xFEFC else 0xFFFC)
  obtain ⟨lo, s7, h7, u7⟩ := busRead_of_uncut u6 ((if s.monitorMode then 0xFEFC else 0xFFFC) + 1)
  obtain ⟨hexec, ⟨hframe, -⟩, b0, b1, b2, b3, b4⟩ :=
    entryClaim_swi s s1 s2 s3 s4 s5 s6 s7 hi lo h1 h2 h3 h4 h5 h6 h7
  have hstored : ∀ k v, k ≤ 4 → Stored (s.sp - BitVec.ofNat 16 k) v s s7 →
      s7.byteAt (s.sp - BitVec.ofNat 16 k) = v := by
    intro k v hk hb
    rwa [Stored, if_pos (hram k hk)] at hb
  have e0 : s.sp - BitVec.ofNat 16 0 = s.sp := by bv_omega
  have hbottom := hstored 0 (loByte s.pc) (by omega)
  rw [e0] at hbottom
  exact ⟨_, hexec, u7, by rw [hframe], by rw [hframe], by rw [hframe], rfl, rfl, hbottom b0,
    hstored 1 _ (by omega) b1, hstored 2 _ (by omega) b2, hstored 3 _ (by omega) b3,
    hstored 4 _ (by omega) b4⟩

/-! ### The instructions on the CCR (R463 to R468) -/

/-- The window opens exactly when the mask has changed (60_exceptions.md R513). -/
theorem openWindow_eq (old : Bool) (s : State) :
    openWindow old s = { s with iWindow := if s.ccr.i = old then s.iWindow else some old } := by
  unfold openWindow
  split <;> rfl

end Sys2Proof.Machine
end

-- ==== Proofs: the obligations of 48_control_system.md ====
section
/-!
PROOF. The obligations about the control instructions, settled from the layers above.
-/

namespace Sys2Proof.Settled

open Sys2Proof.Machine

/-- Settles O56: `SWI` is the taking of an exception and nothing else. -/
theorem softwareInterrupt : Obligations.SoftwareInterrupt := entryClaim_swi

/-- Settles O57: five reads, and then the loads of the registers. -/
theorem returnFromInterrupt : Obligations.ReturnFromInterrupt := by
  intro s s1 s2 s3 s4 s5 c a x hi lo h1 h2 h3 h4 h5
  have hframe := (((busRead_ok h1).trans (busRead_ok h2)).trans (busRead_ok h3)).trans
    ((busRead_ok h4).trans (busRead_ok h5))
  exact ⟨.of_readFrame (exec_rti_ok h1 h2 h3 h4 h5) hframe, hframe⟩

/-- Settles O60: none makes an access, and three may open the window. -/
theorem ccrInstructions : Obligations.CcrInstructions := by
  refine fun s => ⟨⟨?tap, fun _ => rfl⟩, ⟨rfl, fun _ => rfl⟩, ⟨rfl, fun _ => rfl⟩,
    ⟨rfl, fun _ => rfl⟩, ⟨?cli, fun _ => rfl⟩, ⟨?sei, fun _ => rfl⟩, ⟨rfl, fun _ => rfl⟩,
    ⟨rfl, fun _ => rfl⟩, ⟨rfl, fun _ => rfl⟩⟩
  case tap => exact congrArg _ (openWindow_eq s.ccr.i { s with ccr := loadCcr s.a })
  case cli => exact congrArg _ (openWindow_eq s.ccr.i { s with ccr := { s.ccr with i := false } })
  case sei => exact congrArg _ (openWindow_eq s.ccr.i { s with ccr := { s.ccr with i := true } })

/-- Settles O58: `RTI` pulls the five bytes that `SWI` stacked, and the byte of a CCR loads that
CCR. -/
theorem swiThenRti : Obligations.SwiThenRti := by
  intro s huncut hram
  obtain ⟨t, hswi, huncut', hdevice, hh, hrun, hwindow, hsp, hlo, hhi, hx, ha, hccr⟩ :=
    exec_swi_ram huncut hram
  have hrti := exec_rti_ram huncut' hsp (by rwa [hdevice])
  rw [hlo, hhi, hx, ha, hccr, loadCcr_ccrByte, wordOf_hi_lo] at hrti
  exact ⟨t, _, hswi, hrti, rfl, rfl, hh, rfl, rfl, rfl, hwindow, hrun⟩

end Sys2Proof.Settled
end

-- ==== Proofs: what a boundary comes to ====
section
/-!
PROOF. The step by the cases of the boundary (60_exceptions.md R510): a reset that is due, the
request that is recognised or else the instruction at `PC`, and the wake from the low-power states.
-/

namespace Sys2Proof.Machine

/-! ### The cases of the step (R510) -/

/-- A reset that is due comes before anything else, in any run state. -/
theorem step_of_due {s : State} {source : ResetSource}
    (h : (takeInput s).resetIn = some ⟨source, 0⟩) :
    step s = .next (resetCpu source (takeInput s)) := by
  rw [step, boundary, h]
  rfl

theorem boundary_running {s : State} (hreset : s.resetIn = none) (hrun : s.run = .running) :
    boundary s = runningStep s := by
  rw [boundary, hreset, hrun]

theorem boundary_waiting {s : State} (hreset : s.resetIn = none) (hrun : s.run = .waiting) :
    boundary s = wake (pendingLine s) s := by
  rw [boundary, hreset, hrun]

theorem boundary_stopped {s : State} (hreset : s.resetIn = none) (hrun : s.run = .stopped) :
    boundary s = wake (wakingLine s) s := by
  rw [boundary, hreset, hrun]

/-- Where no request is recognised, the step is the instruction at `PC` with the window closed. -/
theorem step_of_not_recognised {s u : State} (hu : u = takeInput s) (hrun : u.run = .running)
    (hreset : u.resetIn = none) (hrec : recognise u = none) :
    step s = runInstruction (closeWindow u) := by
  rw [step, ← hu, boundary_running hreset hrun, runningStep, hrec]

/-! ### Arbitration (R512, R521) -/

theorem leastLine_filter_eq_some {l : List Nat} {p : Nat → Bool} {n : Nat} (hn : n ∈ l)
    (hp : p n = true) (hleast : ∀ m ∈ l, p m = true → n ≤ m) : leastLine (l.filter p) = some n :=
  leastLine_of_least (List.mem_filter.mpr ⟨hn, hp⟩) fun m hm =>
    have ⟨hmem, hpm⟩ := List.mem_filter.mp hm
    hleast m hmem hpm

theorem leastLine_filter_eq_none {l : List Nat} {p : Nat → Bool} (h : ∀ m ∈ l, ¬ p m = true) :
    leastLine (l.filter p) = none := by
  rw [List.filter_eq_nil_iff.mpr h]
  rfl

theorem pendingLine_eq_some {s : State} {n : Nat} (hn : n ∈ s.ireq) (hexists : n < s.device.nIreq)
    (hleast : ∀ m ∈ s.ireq, m < s.device.nIreq → n ≤ m) : pendingLine s = some n :=
  leastLine_filter_eq_some hn (decide_eq_true hexists) fun m hm hp =>
    hleast m hm (of_decide_eq_true hp)

theorem pendingLine_eq_none {s : State} (h : ∀ m ∈ s.ireq, s.device.nIreq ≤ m) :
    pendingLine s = none :=
  leastLine_filter_eq_none fun m hm hp => Nat.not_lt.mpr (h m hm) (of_decide_eq_true hp)

theorem wakingLine_eq_some {s : State} {n : Nat} (hn : n ∈ s.ireq) (hwake : n ∈ s.device.stopWake)
    (hleast : ∀ m ∈ s.ireq, m ∈ s.device.stopWake → n ≤ m) : wakingLine s = some n :=
  leastLine_filter_eq_some hn (List.contains_iff_mem.mpr hwake) fun m hm hp =>
    hleast m hm (List.contains_iff_mem.mp hp)

theorem wakingLine_eq_none {s : State} (h : ∀ m ∈ s.ireq, m ∉ s.device.stopWake) :
    wakingLine s = none :=
  leastLine_filter_eq_none fun m hm hp => h m hm (List.contains_iff_mem.mp hp)

/-! ### Recognition (R510, R513) -/

/-- A pending request is entered or put off, as the mask says. -/
theorem runningStep_of_pending {s : State} {n : Nat} (h : pendingLine s = some n) :
    runningStep s =
      if effectiveMask s then runInstruction (closeWindow s)
      else finish (interruptEntry n (closeWindow s)) := by
  rw [runningStep, recognise, h]
  cases effectiveMask s <;> rfl

theorem runningStep_of_idle {s : State} (h : pendingLine s = none) :
    runningStep s = runInstruction (closeWindow s) := by
  rw [runningStep, recognise, h, ite_self]

theorem runningStep_of_masked {s : State} (h : effectiveMask s = true) :
    runningStep s = runInstruction (closeWindow s) := by
  rw [runningStep, recognise, if_pos h]

theorem effectiveMask_noWindow {s : State} (h : s.iWindow = none) : effectiveMask s = s.ccr.i := by
  rw [effectiveMask, h]

theorem effectiveMask_window {s : State} {old : Bool} (h : s.iWindow = some old) :
    effectiveMask s = if Config.freeBit s.draws then old else s.ccr.i := by
  rw [effectiveMask, h]

theorem closeWindow_noWindow {s : State} (h : s.iWindow = none) : closeWindow s = s := by
  rw [closeWindow, h]

theorem closeWindow_window {s : State} {old : Bool} (h : s.iWindow = some old) :
    closeWindow s = { s with iWindow := none, draws := s.draws + 1 } := by
  rw [closeWindow, h]

/-! ### What closing the window leaves -/

theorem byteAt_closeWindow (s : State) (b : Word) : (closeWindow s).byteAt b = s.byteAt b :=
  byteAt_congr (closeWindow_mem s) (closeWindow_device s) (closeWindow_powerLosses s) b

theorem isMemory_closeWindow {s : State} {a : Word} (h : IsMemory s a) :
    IsMemory (closeWindow s) a := by
  rwa [IsMemory, closeWindow_device]

theorem overwritten_closeWindow (s : State) :
    overwritten (closeWindow s) (closeWindow s).pc = overwritten s s.pc := by
  rw [overwritten, closeWindow_recent, closeWindow_pc, overwritten]

theorem bytesAt_congr {s t : State} (h : ∀ b, t.byteAt b = s.byteAt b) (a : Word) (n : Nat) :
    bytesAt t a n = bytesAt s a n := by
  induction n generalizing a with
  | zero => rfl
  | succ n ih => rw [bytesAt, bytesAt, h, ih]

theorem bytesAt_closeWindow (s : State) (n : Nat) :
    bytesAt (closeWindow s) (closeWindow s).pc n = bytesAt s s.pc n := by
  rw [closeWindow_pc, bytesAt_congr (byteAt_closeWindow s)]

end Sys2Proof.Machine
end

-- ==== Proofs: accesses that a reset cuts short ====
section
/-!
PROOF. An access at an illegal address (60_exceptions.md R506) or with a reset due (R502) is not
made, and an access before a reset that falls later is.
-/

namespace Sys2Proof.Machine

theorem not_resetDue_of_none {s : State} (h : s.resetIn = none) : ¬ ResetDue s := by
  rintro ⟨source, hdue⟩
  rw [h] at hdue
  cases hdue

theorem busRead_illegal {a : Word} {s : State} (hd : ¬ ResetDue s)
    (hi : isIllegal s.device a = true) : busRead a s = .cut .illegalAddress s := by
  rw [busRead, gate_of_illegal hd hi, Bus.andThen_cut]

theorem busWrite_illegal {a : Word} {v : Byte} {s : State} (hd : ¬ ResetDue s)
    (hi : isIllegal s.device a = true) : busWrite a v s = .cut .illegalAddress s := by
  rw [busWrite, gate_of_illegal hd hi, Bus.andThen_cut]

theorem busWrite_due {a : Word} {v : Byte} {s : State} {source : ResetSource}
    (h : s.resetIn = some ⟨source, 0⟩) : busWrite a v s = .cut source s := by
  rw [busWrite, gate, h]
  rfl

theorem readCell_resetIn (a : Word) (s : State) : (readCell a s).2.resetIn = s.resetIn := by
  unfold readCell ioRead drawByte
  split <;> (try split) <;> rfl

theorem writeCell_resetIn (a : Word) (v : Byte) (s : State) :
    (writeCell a v s).resetIn = s.resetIn := by
  unfold writeCell
  split <;> rfl

/-- A write before a reset that falls after one more access completes, and then the reset is due. -/
theorem busWrite_beforeReset {a : Word} (v : Byte) {s : State} {source : ResetSource}
    (h : s.resetIn = some ⟨source, 1⟩) (hlegal : isIllegal s.device a = false) :
    ∃ t, busWrite a v s = .ok () t ∧ t.resetIn = some ⟨source, 0⟩ := by
  have hgate : gate a s = .ok () { s with resetIn := some ⟨source, 0⟩ } := by
    simp [gate, h, hlegal]
  exact ⟨_, by rw [busWrite, hgate, Bus.andThen_ok], writeCell_resetIn ..⟩

end Sys2Proof.Machine
end

-- ==== Proofs: fetching from memory ====
section
/-!
PROOF. The fetch of an instruction whose bytes are RAM or ROM, up to its end or up to the first byte
at an illegal address (30_encoding.md R102, 60_exceptions.md R505, R506): the cell of the opcode map
that the decoder finds in the bytes at `PC` is the one that the fetch finds.
-/

namespace Sys2Proof

/-! ### How many operand bytes a cell asks for (30_encoding.md R101) -/

/-- The number of operand bytes of a cell. -/
def Form.size : Form → Nat
  | .inherent _ => 0
  | .oneByte _ => 1
  | .twoBytes _ => 2
  | .oneWord _ => 2

/-- An instruction is its opcode bytes and the operand bytes of its cell. -/
theorem Form.Encodes.length {form : Form} {opcode bs rest : List Byte} {i : Instr}
    (h : form.Encodes opcode) (hc : form.complete bs = .ok (i, rest)) :
    i.length = opcode.length + form.size := by
  have hbytes := congrArg List.length (h.of_complete hc)
  have hrest : bs.length = form.size + rest.length := by
    revert hc
    fun_cases Form.complete form bs <;> rintro ⟨⟩ <;> simp [Form.size] <;> omega
  rw [List.length_append, List.length_append] at hbytes
  rw [Instr.length]
  omega

/-- The cell in which the decoder finds an instruction: by its first byte, or by the byte after the
pre-byte. -/
theorem decode_eq_ok {op : Byte} {bs rest : List Byte} {i : Instr}
    (h : decode (op :: bs) = .ok (i, rest)) :
    (∃ form, op ≠ prebyte ∧ pageOne op = some form ∧ form.complete bs = .ok (i, rest) ∧
      i.length = 1 + form.size) ∨
    ∃ op2 bs2 form, op = prebyte ∧ bs = op2 :: bs2 ∧ prebytePage op2 = some form ∧
      form.complete bs2 = .ok (i, rest) ∧ i.length = 2 + form.size := by
  by_cases hop : op = prebyte
  · subst hop
    match bs with
    | [] => nomatch h
    | op2 :: bs2 =>
      rw [decode_prebyte, complete_cell_eq_ok] at h
      obtain ⟨form, hcell, hcomplete⟩ := h
      exact .inr ⟨op2, bs2, form, rfl, rfl, hcell, hcomplete,
        (prebytePage_encodes hcell).length hcomplete⟩
  · rw [decode_pageOne hop, complete_cell_eq_ok] at h
    obtain ⟨form, hcell, hcomplete⟩ := h
    exact .inl ⟨form, hop, hcell, hcomplete, (pageOne_encodes hcell).length hcomplete⟩

/-- The opcode the decoder names is the first byte, and its place on page 1 is empty. -/
theorem decode_eq_unassigned {op op' : Byte} {bs : List Byte}
    (h : decode (op' :: bs) = .error (.unassigned op)) :
    op' = op ∧ op ≠ prebyte ∧ pageOne op = none := by
  by_cases hop : op' = prebyte
  · subst hop
    exact absurd h (decode_prebyte_ne_unassigned op bs)
  · rw [decode_pageOne hop, complete_cell_eq_error (by nofun)] at h
    obtain ⟨hcell, ⟨⟩⟩ := h
    exact ⟨rfl, hop, hcell⟩

/-- The opcode the decoder names after a pre-byte is the second byte, and its place is empty. -/
theorem decode_eq_unassignedAfterPrebyte {op op1 op2 : Byte} {bs : List Byte}
    (h : decode (op1 :: op2 :: bs) = .error (.unassignedAfterPrebyte op)) :
    op1 = prebyte ∧ op2 = op ∧ prebytePage op = none := by
  by_cases hop : op1 = prebyte
  · subst hop
    rw [decode_prebyte, complete_cell_eq_error (by nofun)] at h
    obtain ⟨hcell, ⟨⟩⟩ := h
    exact ⟨rfl, rfl, hcell⟩
  · rw [decode_pageOne hop, complete_cell_eq_error (by nofun)] at h
    obtain ⟨-, ⟨⟩⟩ := h

end Sys2Proof

namespace Sys2Proof.Machine

/-! ### `PC` past some bytes -/

/-- The state after `k` bytes have been read from memory at `PC`. -/
def State.advance (s : State) (k : Nat) : State := { s with pc := s.pc + BitVec.ofNat 16 k }

/-- The state with no record of bytes just written, as the opcode fetch leaves it. -/
def State.forgetRecent (s : State) : State := { s with recent := [] }

theorem advance_zero (s : State) : s.advance 0 = s := by
  rw [State.advance, BitVec.add_zero]

theorem advance_pc_add (s : State) (j k : Nat) :
    (s.advance j).pc + BitVec.ofNat 16 k = s.pc + BitVec.ofNat 16 (j + k) := by
  rw [State.advance, BitVec.ofNat_add, BitVec.add_assoc]

theorem advance_advance (s : State) (j k : Nat) : (s.advance j).advance k = s.advance (j + k) := by
  rw [State.advance, advance_pc_add]
  rfl

/-- The `n` bytes from an address on are RAM or ROM the CPU can access. -/
def MemoryFrom (s : State) (a : Word) (n : Nat) : Prop :=
  ∀ k, k < n → IsMemory s (a + BitVec.ofNat 16 k)

theorem MemoryFrom.mono {s : State} {a : Word} {n m : Nat} (h : MemoryFrom s a n) (hm : m ≤ n) :
    MemoryFrom s a m :=
  fun k hk => h k (Nat.lt_of_lt_of_le hk hm)

theorem MemoryFrom.head {s : State} {a : Word} {n : Nat} (h : MemoryFrom s a n) (hn : 0 < n) :
    IsMemory s a := by
  have := h 0 hn
  rwa [BitVec.add_zero] at this

/-- The bytes after the first `j`. -/
theorem MemoryFrom.advance {s : State} {j n : Nat} (h : MemoryFrom s s.pc (j + n)) :
    MemoryFrom (s.advance j) (s.advance j).pc n := fun k hk => by
  rw [advance_pc_add]
  exact h (j + k) (by omega)

/-! ### One byte -/

section

variable {s : State} (hreset : s.resetIn = none)

include hreset

theorem fetch8_memory (hm : IsMemory s s.pc) : fetch8 s = .ok (s.byteAt s.pc) (s.advance 1) := by
  rw [fetch8, busRead_memory ⟨hreset, hm.2⟩ hm, Bus.andThen_ok]
  rfl

theorem fetch8_illegal (hi : isIllegal s.device s.pc = true) :
    fetch8 s = .cut .illegalAddress s := by
  rw [fetch8, busRead_illegal (not_resetDue_of_none hreset) hi, Bus.andThen_cut]

theorem fetchOpcode_memory (hm : IsMemory s s.pc) (ho : overwritten s s.pc = none) :
    fetchOpcode s = .ok (s.byteAt s.pc) (s.forgetRecent.advance 1) := by
  rw [fetchOpcode, fetch8_memory hreset hm, Bus.andThen_ok, ho]
  rfl

/-! ### The operand bytes -/

theorem fetchOperands_memory {form : Form} {n : Nat} {i : Instr} {rest : List Byte}
    (hm : MemoryFrom s s.pc form.size)
    (hc : form.complete (bytesAt s s.pc (n + 2)) = .ok (i, rest)) :
    fetchOperands form s = .ok (.instr i) (s.advance form.size) := by
  have hfirst (h : 0 < form.size) : fetch8 s = .ok (s.byteAt s.pc) (s.advance 1) :=
    fetch8_memory hreset (hm.head h)
  have hsecond (h : 1 + 1 ≤ form.size) :
      fetch8 (s.advance 1) = .ok (s.byteAt (s.pc + 1)) (s.advance 2) :=
    (fetch8_memory (s := s.advance 1) hreset ((hm.mono h).advance.head Nat.one_pos)).trans
      (congrArg _ (advance_advance s 1 1))
  cases form with
  | inherent j =>
    cases hc
    rw [fetchOperands, Form.size, advance_zero]
  | oneByte make =>
    cases hc
    rw [fetchOperands, hfirst Nat.one_pos, Bus.andThen_ok]
    rfl
  | twoBytes make | oneWord make =>
    cases hc
    rw [fetchOperands, hfirst Nat.two_pos, Bus.andThen_ok, hsecond Nat.le.refl, Bus.andThen_ok]
    rfl

theorem fetchOperands_illegal {form : Form} {k : Nat} (hk : k < form.size)
    (hm : MemoryFrom s s.pc k) (hi : isIllegal s.device (s.pc + BitVec.ofNat 16 k) = true) :
    fetchOperands form s = .cut .illegalAddress (s.advance k) := by
  match k with
  | 0 =>
    rw [BitVec.add_zero] at hi
    have hfirst := fetch8_illegal hreset hi
    rw [advance_zero]
    cases form with
    | inherent i => cases hk
    | oneByte make | twoBytes make | oneWord make => rw [fetchOperands, hfirst, Bus.andThen_cut]
  | k + 1 =>
    have hfirst := fetch8_memory hreset (hm.head k.succ_pos)
    have hsecond : k = 0 → fetch8 (s.advance 1) = .cut .illegalAddress (s.advance 1) := by
      rintro rfl
      exact fetch8_illegal hreset hi
    cases form with
    | inherent i => cases hk
    | oneByte make => exact absurd hk (by simp [Form.size])
    | twoBytes make | oneWord make =>
      obtain rfl : k = 0 := by simpa [Form.size] using hk
      rw [fetchOperands, hfirst, Bus.andThen_ok, hsecond rfl, Bus.andThen_cut]

/-- The operand bytes after `j` opcode bytes. -/
theorem fetchOperands_decoded {form : Form} {j n : Nat} {i : Instr} {rest : List Byte}
    (hm : MemoryFrom s s.pc (j + form.size))
    (hc : form.complete (bytesAt s (s.pc + BitVec.ofNat 16 j) (n + 2)) = .ok (i, rest)) :
    fetchOperands form (s.forgetRecent.advance j) =
      .ok (.instr i) (s.forgetRecent.advance (j + form.size)) := by
  have hbytes : bytesAt (s.forgetRecent.advance j) (s.forgetRecent.advance j).pc (n + 2) =
      bytesAt s (s.pc + BitVec.ofNat 16 j) (n + 2) :=
    bytesAt_congr (s := s) (t := s.forgetRecent.advance j) (fun _ => rfl) _ _
  rw [← hbytes] at hc
  rw [← advance_advance]
  exact fetchOperands_memory (s := s.forgetRecent.advance j) hreset hm.advance hc

theorem fetchOperands_decoded_illegal {form : Form} {j k : Nat} (hk : k < form.size)
    (hm : MemoryFrom s s.pc (j + k))
    (hi : isIllegal s.device (s.pc + BitVec.ofNat 16 (j + k)) = true) :
    fetchOperands form (s.forgetRecent.advance j) =
      .cut .illegalAddress (s.forgetRecent.advance (j + k)) := by
  rw [← advance_advance]
  rw [← advance_pc_add s] at hi
  exact fetchOperands_illegal (s := s.forgetRecent.advance j) hreset hk hm.advance hi

/-! ### The opcode bytes -/

section

variable (ho : overwritten s s.pc = none)

include ho

theorem fetchInstr_pageOne (hm : IsMemory s s.pc) {form : Form} (hop : s.byteAt s.pc ≠ prebyte)
    (hcell : pageOne (s.byteAt s.pc) = some form) :
    fetchInstr s = fetchOperands form (s.forgetRecent.advance 1) := by
  rw [fetchInstr, fetchOpcode_memory hreset hm ho, Bus.andThen_ok, if_neg hop, hcell]

theorem fetchInstr_unassigned (hm : IsMemory s s.pc) (hop : s.byteAt s.pc ≠ prebyte)
    (hcell : pageOne (s.byteAt s.pc) = none) :
    fetchInstr s = .ok (.unassigned [s.byteAt s.pc]) (s.forgetRecent.advance 1) := by
  rw [fetchInstr, fetchOpcode_memory hreset hm ho, Bus.andThen_ok, if_neg hop, hcell]

variable (hop : s.byteAt s.pc = prebyte)

include hop

theorem fetchInstr_prebytePage (hm : MemoryFrom s s.pc 2) {form : Form}
    (hcell : prebytePage (s.byteAt (s.pc + 1)) = some form) :
    fetchInstr s = fetchOperands form (s.forgetRecent.advance 2) := by
  have hsecond := fetch8_memory (s := s.forgetRecent.advance 1) hreset
    (hm.advance (j := 1) (n := 1) |>.head Nat.one_pos)
  rw [advance_advance] at hsecond
  have hcell' : prebytePage ((s.forgetRecent.advance 1).byteAt (s.forgetRecent.advance 1).pc) =
    some form := hcell
  rw [fetchInstr, fetchOpcode_memory hreset (hm.head Nat.two_pos) ho, Bus.andThen_ok, if_pos hop,
    hsecond, Bus.andThen_ok, hcell']

theorem fetchInstr_unassignedAfterPrebyte (hm : MemoryFrom s s.pc 2)
    (hcell : prebytePage (s.byteAt (s.pc + 1)) = none) :
    fetchInstr s = .ok (.unassigned [prebyte, s.byteAt (s.pc + 1)]) (s.forgetRecent.advance 2) := by
  have hsecond := fetch8_memory (s := s.forgetRecent.advance 1) hreset
    (hm.advance (j := 1) (n := 1) |>.head Nat.one_pos)
  rw [advance_advance] at hsecond
  have hcell' : prebytePage ((s.forgetRecent.advance 1).byteAt (s.forgetRecent.advance 1).pc) =
    none := hcell
  rw [fetchInstr, fetchOpcode_memory hreset (hm.head Nat.two_pos) ho, Bus.andThen_ok, if_pos hop,
    hsecond, Bus.andThen_ok, hcell', hop]
  rfl

theorem fetchInstr_illegalAfterPrebyte (hm : IsMemory s s.pc)
    (hi : isIllegal s.device (s.pc + 1) = true) :
    fetchInstr s = .cut .illegalAddress (s.forgetRecent.advance 1) := by
  have hsecond := fetch8_illegal (s := s.forgetRecent.advance 1) hreset hi
  rw [fetchInstr, fetchOpcode_memory hreset hm ho, Bus.andThen_ok, if_pos hop, hsecond,
    Bus.andThen_cut]

end

theorem fetchInstr_illegal (hi : isIllegal s.device s.pc = true) :
    fetchInstr s = .cut .illegalAddress s := by
  rw [fetchInstr, fetchOpcode, fetch8_illegal hreset hi]
  rfl

/-! ### The whole instruction -/

section

variable (ho : overwritten s s.pc = none) {i : Instr} {rest : List Byte}
  (hdec : decode (bytesAt s s.pc 4) = .ok (i, rest))

include ho hdec

/-- The bytes of an instruction in memory are fetched as the instruction they decode to. -/
theorem fetchInstr_decoded (hm : MemoryFrom s s.pc i.length) :
    fetchInstr s = .ok (.instr i) (s.forgetRecent.advance i.length) := by
  obtain ⟨form, hop, hcell, hcomplete, hlength⟩ |
    ⟨op2, bs2, form, hop, hbs, hcell, hcomplete, hlength⟩ := decode_eq_ok hdec
  · rw [hlength] at hm ⊢
    exact (fetchInstr_pageOne hreset ho (hm.head (by omega)) hop hcell).trans
      (fetchOperands_decoded hreset (n := 1) hm hcomplete)
  · obtain ⟨rfl, rfl⟩ := List.cons.inj hbs
    have hpc : s.pc + 1 + 1 = s.pc + BitVec.ofNat 16 2 := (advance_pc_add s 1 1)
    rw [hpc] at hcomplete
    rw [hlength] at hm ⊢
    exact (fetchInstr_prebytePage hreset ho hop (hm.mono (by omega)) hcell).trans
      (fetchOperands_decoded hreset (n := 0) hm hcomplete)

/-- The fetch is abandoned at the first byte that stands at an illegal address, with the bytes
before it fetched. -/
theorem fetchInstr_decoded_illegal {k : Nat} (hk : k < i.length) (hm : MemoryFrom s s.pc k)
    (hi : isIllegal s.device (s.pc + BitVec.ofNat 16 k) = true) :
    ∃ r, fetchInstr s = .cut .illegalAddress { s.advance k with recent := r } := by
  obtain rfl | hpos := Nat.eq_zero_or_pos k
  · rw [BitVec.add_zero] at hi
    exact ⟨s.recent, (fetchInstr_illegal hreset hi).trans (congrArg _ (advance_zero s).symm)⟩
  have hfirst := hm.head hpos
  refine ⟨[], ?_⟩
  obtain ⟨form, hop, hcell, -, hlength⟩ | ⟨op2, bs2, form, hop, hbs, hcell, -, hlength⟩ :=
    decode_eq_ok hdec
  · obtain ⟨m, rfl⟩ := Nat.exists_eq_add_of_le hpos
    exact (fetchInstr_pageOne hreset ho hfirst hop hcell).trans
      (fetchOperands_decoded_illegal hreset (by omega) hm hi)
  · obtain ⟨rfl, rfl⟩ := List.cons.inj hbs
    obtain rfl | htwo := Nat.eq_or_lt_of_le hpos
    · exact fetchInstr_illegalAfterPrebyte hreset ho hop hfirst hi
    · obtain ⟨m, rfl⟩ := Nat.exists_eq_add_of_le htwo
      exact (fetchInstr_prebytePage hreset ho hop (hm.mono htwo) hcell).trans
        (fetchOperands_decoded_illegal hreset (by omega) hm hi)

end

end

/-! ### What is fetched at a boundary -/

theorem memoryFrom_closeWindow {s : State} {n : Nat} (h : MemoryFrom s s.pc n) :
    MemoryFrom (closeWindow s) (closeWindow s).pc n := by
  rw [closeWindow_pc]
  exact fun k hk => isMemory_closeWindow (h k hk)

/-- `PC` past the bytes fetched, in the words of the obligations. -/
theorem advance_closeWindow (s : State) (k : Nat) :
    (closeWindow s).forgetRecent.advance k =
      { closeWindow s with pc := s.pc + BitVec.ofNat 16 k, recent := [] } := by
  rw [State.forgetRecent, State.advance, closeWindow_pc]

/-- An unassigned opcode with no reset due: the illegal-opcode reset or the refusal, as the device
has it (60_exceptions.md R505). -/
theorem illegalOpcode_of_no_reset {s : State} (hreset : s.resetIn = none) (bytes : List Byte) :
    illegalOpcode bytes s =
      if .illegalOpcode ∈ s.device.resetSources then .next (resetCpu .illegalOpcode s)
      else .refused (.illegalOpcode bytes) := by
  rw [illegalOpcode, hreset]
  simp only [List.contains_iff_mem]

theorem runInstruction_unassigned {s : State} {bytes : List Byte} {k : Nat}
    (hreset : s.resetIn = none)
    (h : fetchInstr (closeWindow s) =
      .ok (.unassigned bytes) ((closeWindow s).forgetRecent.advance k)) :
    runInstruction (closeWindow s) =
      if .illegalOpcode ∈ s.device.resetSources then
        .next (resetCpu .illegalOpcode
          { closeWindow s with pc := s.pc + BitVec.ofNat 16 k, recent := [] })
      else .refused (.illegalOpcode bytes) := by
  have hreset' : ((closeWindow s).forgetRecent.advance k).resetIn = none :=
    (closeWindow_resetIn s).trans hreset
  rw [runInstruction, h, ← advance_closeWindow]
  dsimp only
  rw [illegalOpcode_of_no_reset hreset']
  simp only [State.advance, State.forgetRecent, closeWindow_device]

end Sys2Proof.Machine
end

-- ==== Proofs: the obligations of 60_exceptions.md on the boundary ====
section
/-!
PROOF. The obligations about the boundary: the instruction at `PC`, the requests, the vectors and
the low-power states, settled from the layers above.
-/

namespace Sys2Proof.Settled

open Sys2Proof.Machine

/-- Settles O5: closing the window touches no byte, and the fetch finds the instruction the bytes
decode to. -/
theorem stepRunsDecodedInstruction : Obligations.StepRunsDecodedInstruction := by
  intro s u i rest hu hrun hreset hrec ho hdec hm
  have hfetch := fetchInstr_decoded ((closeWindow_resetIn u).trans hreset)
    ((overwritten_closeWindow u).trans ho)
    ((congrArg decode (bytesAt_closeWindow u 4)).trans hdec) (memoryFrom_closeWindow hm)
  rw [step_of_not_recognised hu hrun hreset hrec, runInstruction, hfetch, ← advance_closeWindow]

/-- Settles O19. -/
theorem vectorAddresses : Obligations.VectorAddresses :=
  ⟨fun _ => rfl, getLsbD_vectorAddress, vectorAddress_resetVector true,
    vectorAddress_swiVector true,
    fun _ hn => ⟨ireqVector_toNat hn, vectorAddress_ireqVector_toNat hn⟩⟩

/-- Settles O17: the entry is the taking of an exception, after the record of writes is dropped. -/
theorem interruptEntry : Obligations.InterruptEntry := fun _ hn => entryClaim_interruptEntry hn

/-- Settles O15: with no window the mask is the `I` bit. -/
theorem interruptRecognition : Obligations.InterruptRecognition := by
  intro s u hu hrun hreset hwindow
  have hstep : step s = runningStep u := by rw [step, ← hu, boundary_running hreset hrun]
  have hmask := effectiveMask_noWindow hwindow
  rw [hstep]
  refine ⟨fun n hclear hn hexists hleast => ?enter, ?execute⟩
  case enter =>
    rw [runningStep_of_pending (pendingLine_eq_some hn hexists hleast), hmask, hclear,
      closeWindow_noWindow hwindow]
    rfl
  case execute =>
    rintro (hset | hnone)
    · rw [runningStep_of_masked (hmask.trans hset), closeWindow_noWindow hwindow]
    · rw [runningStep_of_idle (pendingLine_eq_none hnone), closeWindow_noWindow hwindow]

/-- Settles O16: in the window the mask is drawn from the old and the new `I` bit. -/
theorem maskWindow : Obligations.MaskWindow := by
  rintro s u v old hu hrun hreset hwindow rfl
  rw [← closeWindow_window hwindow]
  have hstep : step s = runningStep u := by rw [step, ← hu, boundary_running hreset hrun]
  rw [hstep]
  refine ⟨fun n hn hexists hleast => ?_, fun hnone => ?_⟩
  · rw [runningStep_of_pending (pendingLine_eq_some hn hexists hleast),
      effectiveMask_window hwindow]
  · exact runningStep_of_idle (pendingLine_eq_none hnone)

/-- Settles O18: the lines that wake are all that exist in `Waiting` and those of `STOP_WAKE` in
`Stopped`. -/
theorem lowPowerStates : Obligations.LowPowerStates := by
  intro s u hu hreset
  have hstep : step s = boundary u := by rw [step, ← hu]
  rw [hstep]
  refine ⟨fun n hrun hn hexists hleast => ?wait, fun hrun hnone => ?waitOn,
    fun n hrun hn hwake hleast => ?stop, fun hrun hnone => ?stopOn⟩
  case wait =>
    rw [boundary_waiting hreset hrun, pendingLine_eq_some hn hexists hleast, wake]
  case waitOn =>
    rw [boundary_waiting hreset hrun, pendingLine_eq_none hnone, wake]
  case stop =>
    rw [boundary_stopped hreset hrun, wakingLine_eq_some hn hwake hleast, wake]
  case stopOn =>
    rw [boundary_stopped hreset hrun, wakingLine_eq_none hnone, wake]

/-- Settles O6: the fetch finds the empty place of the map that the decoder found, and no reset is
due when it has. -/
theorem unassignedOpcodeStep : Obligations.UnassignedOpcodeStep := by
  intro s u op hu hrun hreset hrec ho
  rw [step_of_not_recognised hu hrun hreset hrec]
  have hreset' := (closeWindow_resetIn u).trans hreset
  have ho' := (overwritten_closeWindow u).trans ho
  have hbyte : (closeWindow u).byteAt (closeWindow u).pc = u.byteAt u.pc := by
    rw [closeWindow_pc, byteAt_closeWindow]
  refine ⟨fun hdec hm => ?one, fun hdec hm hm2 => ?two⟩
  case one =>
    obtain ⟨hop, hne, hcell⟩ := decode_eq_unassigned hdec
    have hm' : IsMemory (closeWindow u) (closeWindow u).pc := by
      rw [closeWindow_pc]
      exact isMemory_closeWindow hm
    rw [← hop, ← hbyte] at hne hcell ⊢
    exact runInstruction_unassigned (k := 1) hreset
      (fetchInstr_unassigned hreset' ho' hm' hne hcell)
  case two =>
    obtain ⟨hpre, hop, hcell⟩ := decode_eq_unassignedAfterPrebyte hdec
    have hm' : MemoryFrom u u.pc 2 := by
      intro k hk
      interval_cases k
      · rwa [BitVec.add_zero]
      · exact hm2
    have hbyte2 : (closeWindow u).byteAt ((closeWindow u).pc + 1) = u.byteAt (u.pc + 1) := by
      rw [closeWindow_pc, byteAt_closeWindow]
    rw [← hop, ← hbyte2] at hcell ⊢
    exact runInstruction_unassigned (k := 2) hreset
      (fetchInstr_unassignedAfterPrebyte hreset' ho' (hbyte.trans hpre)
        (memoryFrom_closeWindow hm') hcell)

end Sys2Proof.Settled
end

-- ==== Proofs: the record of the bytes just written ====
section
/-!
PROOF. What the record of recent writes says (70_reset_and_hazards.md R590): a write to RAM puts the
byte that stood there on record unless one is there already. So through any sequence of writes the
byte on record, or the byte in memory where none is on record, is the one that stood there at the
start; `exec_ends` carries that through every instruction.
-/

namespace Sys2Proof.Machine

theorem overwritten_nil {s : State} (h : s.recent = []) (b : Word) : overwritten s b = none := by
  rw [overwritten, h]
  rfl

theorem overwritten_congr {s t : State} (h : t.recent = s.recent) (b : Word) :
    overwritten t b = overwritten s b := by
  rw [overwritten, h, overwritten]

/-- An entry put at the end of the record counts where the record named no such address. -/
theorem overwritten_append {s t : State} {a : Word} {old : Byte}
    (h : t.recent = s.recent ++ [{ addr := a, old := old }]) (b : Word) :
    overwritten t b = (overwritten s b).or (if a = b then some old else none) := by
  rw [overwritten, h, List.find?_append, Option.map_or, overwritten]
  by_cases hab : a = b <;> simp [hab]

/-- What a write does to the record, at every address. -/
theorem overwritten_busWrite {a : Word} {v : Byte} {s t : State} (h : busWrite a v s = .ok () t)
    (b : Word) :
    overwritten t b =
      if regionKind s.device a = .ram ∧ a = b then some ((overwritten s b).getD (s.byteAt b))
      else overwritten s b := by
  obtain ⟨_, s1, hgate, ⟨⟩⟩ := Bus.andThen_eq_ok.mp h
  have hs1 := (gate_ok hgate).2
  have hdevice : s1.device = s.device := by rw [hs1]
  have hrecord : overwritten s1 b = overwritten s b := overwritten_congr (by rw [hs1]) b
  have hbyte : s1.byteAt b = s.byteAt b := by rw [hs1]; rfl
  rw [← hdevice, ← hrecord, ← hbyte]
  cases hkind : regionKind s1.device a with
  | ram =>
    rw [writeCell_ram v hkind, overwritten_append (s := s1) rfl]
    by_cases hab : a = b
    · subst hab
      cases overwritten s1 a <;> simp
    · simp [hab]
  | rom => rw [writeCell_rom v hkind, if_neg (by simp)]
  | io => rw [writeCell_io v hkind, if_neg (by simp)]; rfl
  | unimplemented => rw [writeCell_unimplemented v hkind, if_neg (by simp)]

/-- Nothing can cut an access short, the device is that of `s`, and at every address of RAM the byte
on record, or the byte in memory where none is on record, is the one that stood there in `s`. -/
def OldBytesKnown (s t : State) : Prop :=
  Uncut t ∧ t.device = s.device ∧
  ∀ b : Word, regionKind s.device b = .ram → (overwritten t b).getD (t.byteAt b) = s.byteAt b

namespace OldBytesKnown

variable {s t u : State}

/-- With nothing on record every byte is the one that stands there. -/
theorem start (h : Uncut s) (hrecord : t = { s with recent := [] }) : OldBytesKnown s t := by
  subst hrecord
  exact ⟨h, rfl, fun _ _ => rfl⟩

theorem read (h : OldBytesKnown s t) (hr : ReadFrame t u) (hu : Uncut u) : OldBytesKnown s u := by
  obtain ⟨-, hdevice, hold⟩ := h
  refine ⟨hu, by rw [hr.1, hdevice], fun b hb => ?_⟩
  have hrecord : overwritten u b = overwritten t b := overwritten_congr (by rw [hr.1]) b
  rw [hrecord, hr.2 b, hold b hb]

/-- The byte a write replaces goes on record, if it is the first at its address. -/
theorem write {a : Word} {v : Byte} (h : OldBytesKnown s t) (hw : busWrite a v t = .ok () u)
    (hu : Uncut u) : OldBytesKnown s u := by
  obtain ⟨-, hdevice, hold⟩ := h
  have hframe := (busWrite_ok hw).1
  refine ⟨hu, hframe.device.trans hdevice, fun b hb => ?_⟩
  rw [overwritten_busWrite hw b]
  by_cases hwritten : regionKind t.device a = .ram ∧ a = b
  · rw [if_pos hwritten, Option.getD_some, hold b hb]
  · have hba : b ≠ a := fun hba => hwritten ⟨by rwa [hdevice, ← hba], hba.symm⟩
    rw [if_neg hwritten, hframe.2 b (List.mem_singleton.not.mpr hba), hold b hb]

/-- Everything an instruction is made of keeps the old bytes known, and nothing cuts it short. -/
theorem kept (s : State) : Kept (OldBytesKnown s) fun _ => False where
  registers t u hu h := by
    rw [hu]
    exact h
  read a t h := by
    have huncut := uncut_kept.read a t h.1
    cases hb : busRead a t with
    | ok v u => exact h.read (busRead_ok hb) (by rwa [hb] at huncut)
    | cut r u => rwa [hb] at huncut
  write a v t h := by
    have huncut := uncut_kept.write a v t h.1
    cases hb : busWrite a v t with
    | ok _ u => exact h.write hb (by rwa [hb] at huncut)
    | cut r u => rwa [hb] at huncut

/-- A byte of RAM that has changed is on record as it was. -/
theorem overwritten_of_changed (h : OldBytesKnown s t) {b : Word}
    (hb : regionKind s.device b = .ram) (hchanged : t.byteAt b ≠ s.byteAt b) :
    overwritten t b = some (s.byteAt b) := by
  have hold := h.2.2 b hb
  cases hrecord : overwritten t b with
  | none => rw [hrecord] at hold; exact absurd hold hchanged
  | some old => rw [hrecord] at hold; rw [← hold, Option.getD_some]

/-- The state in which a result completes, where nothing cut it short. -/
theorem of_ends (h : Ends (OldBytesKnown s) (fun _ => False) (.next t)) : OldBytesKnown s t := by
  obtain ⟨t', ht', ⟨⟩⟩ | ⟨_, _, hcut, -⟩ := h
  · exact ht'
  · exact hcut.elim

end OldBytesKnown

/-- The fetch of an opcode byte that is on record draws the old byte or the new one. -/
theorem fetchOpcode_recorded {s : State} {old : Byte} (haccess : Accessible s s.pc)
    (hram : regionKind s.device s.pc = .ram) (ho : overwritten s s.pc = some old) :
    fetchOpcode s = .ok (if Config.freeBit s.draws then old else s.byteAt s.pc)
      { s with pc := s.pc + 1, recent := [], draws := s.draws + 1 } := by
  rw [fetchOpcode, fetch8, busRead_memory haccess ⟨.inl hram, haccess.2⟩, Bus.andThen_ok,
    Bus.andThen_ok, ho]

end Sys2Proof.Machine
end

-- ==== Proofs: where a step can stop ====
section
/-!
PROOF. Every instruction answers a next state, because it is made of accesses and every sequence of
them does; so a step can stop at an unassigned opcode alone (60_exceptions.md R505,
70_reset_and_hazards.md R605).
-/

namespace Sys2Proof.Machine

theorem exec_next (i : Instr) (s : State) : ∃ t, exec i s = .next t := by
  have hkept : Kept (fun _ => True) fun _ => True :=
    .of_holds (fun _ _ _ _ => trivial) (fun _ _ _ => busRead_holds trivial fun _ _ => trivial)
      fun _ _ _ _ => busWrite_holds trivial fun _ _ => trivial
  obtain ⟨t, -, h⟩ | ⟨source, t, -, h⟩ := exec_ends hkept i (s := s) trivial
  · exact ⟨t, h⟩
  · exact ⟨_, h⟩

/-- The bytes of an unassigned opcode (30_encoding.md R112). -/
def UnassignedBytes (bytes : List Byte) : Prop :=
  (∃ op, op ∈ unassignedFirst ∧ bytes = [op]) ∨
    ∃ op, op ∉ assignedAfterPrebyte ∧ bytes = [prebyte, op]

theorem fetchOperands_ne_unassigned {form : Form} {s t : State} {bytes : List Byte} :
    fetchOperands form s ≠ .ok (.unassigned bytes) t := by
  cases form <;> simp [fetchOperands, Bus.andThen_eq_ok]

/-- A fetch names an unassigned opcode where a place of the opcode map is empty, and nowhere else.
-/
theorem unassignedBytes_of_fetchInstr {s t : State} {bytes : List Byte}
    (h : fetchInstr s = .ok (.unassigned bytes) t) : UnassignedBytes bytes := by
  obtain ⟨op, s1, -, h⟩ := Bus.andThen_eq_ok.mp h
  split at h
  next hop =>
    obtain ⟨op2, s2, -, h⟩ := Bus.andThen_eq_ok.mp h
    split at h
    next => exact absurd h fetchOperands_ne_unassigned
    next hcell =>
      cases h
      exact .inr ⟨op2, (prebytePage_eq_none_iff op2).mp hcell, by rw [hop]⟩
  next hop =>
    split at h
    next => exact absurd h fetchOperands_ne_unassigned
    next hcell =>
      cases h
      exact .inl ⟨op, (pageOne_eq_none_iff op).mp ⟨hop, hcell⟩, rfl⟩

/-- A result is a next state, or the refusal of an unassigned opcode on a device that has no
illegal-opcode reset. -/
def Proceeds (d : Device) (r : Result) : Prop :=
  (∃ t, r = .next t) ∨
    ∃ bytes, r = .refused (.illegalOpcode bytes) ∧ .illegalOpcode ∉ d.resetSources ∧
      UnassignedBytes bytes

theorem proceeds_finish (d : Device) (b : Bus Unit) : Proceeds d (finish b) := .inl (finish_next b)

theorem proceeds_illegalOpcode {s : State} {bytes : List Byte} (h : UnassignedBytes bytes) :
    Proceeds s.device (illegalOpcode bytes s) := by
  obtain ⟨source, -, heq⟩ | ⟨-, heq⟩ | ⟨-, hno, heq⟩ := illegalOpcode_cases bytes s
  · exact .inl ⟨_, heq⟩
  · exact .inl ⟨_, heq⟩
  · exact .inr ⟨bytes, heq, hno, h⟩

/-- The fetch leaves the device. -/
theorem proceeds_runInstruction (s : State) : Proceeds s.device (runInstruction s) := by
  have hframe := fetchInstr_frame s
  unfold runInstruction
  cases hfetch : fetchInstr s with
  | ok fetched t =>
    rw [hfetch] at hframe
    have hdevice : t.device = s.device := by rw [show t = _ from hframe]
    cases fetched with
    | instr i => exact .inl (exec_next i t)
    | unassigned bytes =>
      exact hdevice ▸ proceeds_illegalOpcode (unassignedBytes_of_fetchInstr hfetch)
  | cut source t => exact .inl ⟨_, rfl⟩

theorem proceeds_runningStep (s : State) : Proceeds s.device (runningStep s) := by
  unfold runningStep
  split
  · exact proceeds_finish _ _
  · exact closeWindow_device s ▸ proceeds_runInstruction (closeWindow s)

theorem proceeds_wake (line : Option Nat) (s : State) : Proceeds s.device (wake line s) := by
  cases line with
  | none => exact .inl ⟨s, rfl⟩
  | some n => exact proceeds_finish _ _

theorem proceeds_boundary (s : State) : Proceeds s.device (boundary s) := by
  unfold boundary
  split
  · exact .inl ⟨_, rfl⟩
  · split
    · exact proceeds_runningStep s
    · exact proceeds_wake _ s
    · exact proceeds_wake _ s

theorem proceeds_step (s : State) : Proceeds s.device (step s) := by
  have hdevice : (takeInput s).device = s.device := by rw [takeInput_frame]
  exact hdevice ▸ proceeds_boundary (takeInput s)

end Sys2Proof.Machine
end

-- ==== Proofs: instructions and entries that a reset cuts short ====
section
/-!
PROOF. The instructions and entries that a reset cuts short (60_exceptions.md R502, R503, R506):
where an access is not made the sequence it stands in ends, with the state as the accesses before it
left it. What the sequence had done to the registers by then does not matter, because the reset
forces or draws them (`resetCpu_congr`).
-/

namespace Sys2Proof.Machine

/-! ### The stack -/

section

variable {s : State} (hd : ¬ ResetDue s)

include hd

theorem push8_illegal (v : Byte) (hi : isIllegal s.device s.sp = true) :
    push8 v s = .cut .illegalAddress s := by
  rw [push8, busWrite_illegal hd hi, Bus.andThen_cut]

theorem pushWord_illegal (w : Word) (hi : isIllegal s.device s.sp = true) :
    pushWord w s = .cut .illegalAddress s := by
  rw [pushWord, push8_illegal hd _ hi, Bus.andThen_cut]

theorem pull8_illegal (hi : isIllegal s.device (s.sp + 1) = true) :
    pull8 s = .cut .illegalAddress { s with sp := s.sp + 1 } :=
  busRead_illegal (s := { s with sp := s.sp + 1 }) hd hi

end

/-- A pull that fails has moved `SP`, which the reset forces. -/
theorem finish_pull8_illegal {s : State} (hd : ¬ ResetDue s)
    (hi : isIllegal s.device (s.sp + 1) = true) (k : Byte → State → Bus Unit) :
    finish ((pull8 s).andThen k) = .next (resetCpu .illegalAddress s) := by
  rw [pull8_illegal hd hi, Bus.andThen_cut, finish_cut, resetCpu_congr (by decide) rfl]

theorem finish_pullWord_illegal {s : State} (hd : ¬ ResetDue s)
    (hi : isIllegal s.device (s.sp + 1) = true) (k : Word → State → Bus Unit) :
    finish ((pullWord s).andThen k) = .next (resetCpu .illegalAddress s) := by
  rw [pullWord, pull8_illegal hd hi, Bus.andThen_cut, Bus.andThen_cut, finish_cut,
    resetCpu_congr (by decide) rfl]

theorem exec_push_illegal {i : Instr} {s : State} (hd : ¬ ResetDue s)
    (hi : isIllegal s.device s.sp = true)
    (hform : i ∈ [.psha, .pshh, .pshx, .swi] ∨ (∃ m, i = .jsrOf m) ∨ ∃ rr, i = .bsr rr) :
    exec i s = .next (resetCpu .illegalAddress s) := by
  have hcall (destination : Word) :
      callSubroutine destination s = .next (resetCpu .illegalAddress s) := by
    rw [callSubroutine, pushWord_illegal hd _ hi, Bus.andThen_cut, finish_cut]
  obtain hmem | ⟨m, rfl⟩ | ⟨rr, rfl⟩ := hform
  · simp only [List.mem_cons, List.not_mem_nil, or_false] at hmem
    obtain rfl | rfl | rfl | rfl := hmem
    case inr.inr.inr =>
      show execSwi s = _
      rw [execSwi, takeException, pushWord_illegal hd _ hi, Bus.andThen_cut, finish_cut]
    all_goals exact congrArg finish (push8_illegal hd _ hi)
  · rw [exec_jsrOf, hcall]
  · rw [exec_bsr, hcall]

theorem exec_pull_illegal {i : Instr} {s : State} (hd : ¬ ResetDue s)
    (hi : isIllegal s.device (s.sp + 1) = true) (hform : i ∈ [.pula, .pulh, .pulx, .rts, .rti]) :
    exec i s = .next (resetCpu .illegalAddress s) := by
  simp only [List.mem_cons, List.not_mem_nil, or_false] at hform
  obtain rfl | rfl | rfl | rfl | rfl := hform
  case inr.inr.inr.inl => exact finish_pullWord_illegal hd hi _
  all_goals exact finish_pull8_illegal hd hi _

/-! ### `STHX` cut short between its writes (20_memory.md R69) -/

theorem exec_sthx_cut {dd : Byte} {s s1 t : State} {source : ResetSource}
    (h1 : busWrite (zext16 dd) s.h s = .ok () s1)
    (h2 : busWrite (zext16 dd + 1) s.x s1 = .cut source t) :
    exec (.sthx dd) s = .next (resetCpu source t) := by
  show execSthx dd s = _
  rw [execSthx, busWrite16, State.hx, hiByte_wordOf, loByte_wordOf, h1, Bus.andThen_ok, h2,
    Bus.andThen_cut, finish_cut]

/-! ### Vectors (60_exceptions.md R507) -/

/-- A vector in RAM or ROM is loaded as it stands. -/
theorem readVector_memory {vector v : Word} {s : State}
    (hv : v = vectorAddress s.monitorMode vector) (hreset : s.resetIn = none) (hm : IsMemory s v)
    (hm1 : IsMemory s (v + 1)) :
    readVector vector s = .ok (wordOf (s.byteAt v) (s.byteAt (v + 1))) s := by
  rw [readVector, ← hv]
  exact busRead16_ok (busRead_memory ⟨hreset, hm.2⟩ hm) (busRead_memory ⟨hreset, hm1.2⟩ hm1)

/-- A vector fetch of which either byte is at an illegal address is abandoned. -/
theorem readVector_illegal {vector v : Word} {s : State}
    (hv : v = vectorAddress s.monitorMode vector) (hreset : s.resetIn = none)
    (hi : isIllegal s.device v = true ∨ isIllegal s.device (v + 1) = true) :
    ∃ t, readVector vector s = .cut .illegalAddress t := by
  rw [readVector, ← hv, busRead16]
  by_cases hfirst : isIllegal s.device v = true
  · exact ⟨s, by rw [busRead_illegal (not_resetDue_of_none hreset) hfirst, Bus.andThen_cut]⟩
  · have hread := busRead_of_accessible ⟨hreset, Bool.eq_false_iff.mpr hfirst⟩
    have hdevice : (readCell v s).2.device = s.device := by rw [(readCell_frame v s).1]
    have hsecond := busRead_illegal (a := v + 1) (s := (readCell v s).2)
      (not_resetDue_of_none ((readCell_resetIn v s).trans hreset))
      (by rw [hdevice]; exact hi.resolve_left hfirst)
    exact ⟨_, by rw [hread, Bus.andThen_ok, hsecond, Bus.andThen_cut]⟩

/-- A push made with `SP` already moved to the address written. -/
theorem push8_at {p : Word} {v : Byte} {s t : State} (h : busWrite p v s = .ok () t) :
    push8 v { s with sp := p } = .ok () { t with sp := p - 1 } := by
  rw [push8_of_registers (u := { s with sp := p }) h rfl, (busWrite_ok h).1.1]
  rfl

/-- Taking an exception after its five writes: the vector is fetched with the mask set. -/
theorem takeException_stacked {vector : Word} {s s1 s2 s3 s4 s5 : State}
    (h1 : busWrite s.sp (loByte s.pc) s = .ok () s1)
    (h2 : busWrite (s.sp - 1) (hiByte s.pc) s1 = .ok () s2)
    (h3 : busWrite (s.sp - 2) s.x s2 = .ok () s3) (h4 : busWrite (s.sp - 3) s.a s3 = .ok () s4)
    (h5 : busWrite (s.sp - 4) (ccrByte s.ccr) s4 = .ok () s5) :
    takeException vector s =
      (readVector vector
        { s5 with sp := s.sp - 5, ccr := { s.ccr with i := true }, iWindow := none }).andThen
      fun v t => .ok () { t with pc := v } := by
  have f12 := (busWrite_ok h1).1.trans (busWrite_ok h2).1
  have f13 := f12.trans (busWrite_ok h3).1
  have f14 := f13.trans (busWrite_ok h4).1
  have f15 := f14.trans (busWrite_ok h5).1
  obtain ⟨-, d3, d4, d5⟩ := sp_down s.sp
  have p3 := push8_at h3
  have p4 := push8_at h4
  have p5 := push8_at h5
  rw [← f12.x, d3] at p3
  rw [← f13.a, d4] at p4
  rw [← f14.ccr, d5] at p5
  rw [takeException, pushWord_ok h1 h2, Bus.andThen_ok, p3, Bus.andThen_ok, p4, Bus.andThen_ok, p5,
    Bus.andThen_ok, f15.ccr]

/-- An exception whose vector is at an illegal address is abandoned after its five writes. -/
theorem takeException_illegalVector {vector : Word} {s s1 s2 s3 s4 s5 : State}
    (h1 : busWrite s.sp (loByte s.pc) s = .ok () s1)
    (h2 : busWrite (s.sp - 1) (hiByte s.pc) s1 = .ok () s2)
    (h3 : busWrite (s.sp - 2) s.x s2 = .ok () s3) (h4 : busWrite (s.sp - 3) s.a s3 = .ok () s4)
    (h5 : busWrite (s.sp - 4) (ccrByte s.ccr) s4 = .ok () s5) (hd : ¬ ResetDue s5)
    (hi : isIllegal s.device (vectorAddress s.monitorMode vector) = true) :
    finish (takeException vector s) = .next (resetCpu .illegalAddress s5) := by
  have hframe := (fiveWrites_ok h1 h2 h3 h4 h5).1
  have hmode : s5.monitorMode = s.monitorMode := by rw [hframe.1]
  rw [← hframe.device, ← hmode] at hi
  rw [takeException_stacked h1 h2 h3 h4 h5, readVector, busRead16,
    busRead_illegal (s := { s5 with
      sp := s.sp - 5, ccr := { s.ccr with i := true }, iWindow := none }) hd hi,
    Bus.andThen_cut, Bus.andThen_cut, finish_cut, resetCpu_congr (by decide) rfl]

/-! ### The reset itself (60_exceptions.md R503) -/

/-- The state in which a reset fetches its vector. -/
def resetStart (source : ResetSource) (s : State) : State :=
  forceResetState source (memoryAfterReset source s)

theorem resetCpu_eq (source : ResetSource) (s : State) :
    resetCpu source s = endReset (readVector resetVector (resetStart source s)) := rfl

theorem resetStart_device (source : ResetSource) (s : State) :
    (resetStart source s).device = s.device := memoryAfterReset_device source s

theorem resetStart_monitorMode (source : ResetSource) (s : State) :
    (resetStart source s).monitorMode = s.modePin := memoryAfterReset_modePin source s

/-- A reset whose vector stands in RAM or ROM completes (R503, R551). -/
theorem resetCpu_of_memory (source : ResetSource) {s : State} {v : Word}
    (hv : v = vectorAddress s.modePin resetVector) (hm : IsMemory s v) (hm1 : IsMemory s (v + 1)) :
    resetCpu source s = { resetStart source s with
      pc := wordOf ((resetStart source s).byteAt v) ((resetStart source s).byteAt (v + 1)) } := by
  rw [IsMemory, ← resetStart_device source] at hm hm1
  rw [← resetStart_monitorMode source] at hv
  rw [resetCpu_eq, readVector_memory hv rfl hm hm1]
  rfl

/-- A reset whose vector is at an illegal address leaves another reset due. -/
theorem resetCpu_illegalVector (source : ResetSource) {s : State} {v : Word}
    (hv : v = vectorAddress s.modePin resetVector)
    (hi : isIllegal s.device v = true ∨ isIllegal s.device (v + 1) = true) :
    (resetCpu source s).resetIn = some ⟨.illegalAddress, 0⟩ := by
  rw [← resetStart_device source] at hi
  rw [← resetStart_monitorMode source] at hv
  obtain ⟨t, ht⟩ := readVector_illegal hv rfl hi
  rw [resetCpu_eq, ht, endReset]

end Sys2Proof.Machine
end

-- ==== Proofs: the obligations of 60_exceptions.md and 70_reset_and_hazards.md on resets ====
section
/-!
PROOF. The obligations about resets, the opcode-prefetch hazard and where a step can stop, settled
from the layers above.
-/

namespace Sys2Proof.Settled

open Sys2Proof.Machine

/-- Settles O12: the reset that is due is performed, and its vector fetch reads the bytes it leaves.
-/
theorem resetProcessing : Obligations.ResetProcessing := by
  intro s u source v hu hdue hv hm hm1
  subst hu
  obtain ⟨hsp, hh, hi, hrun, hwindow, -, -, -, hlast⟩ := resetCpu_forced source (takeInput s)
  have hvector := hv.trans (vectorAddress_resetVector (takeInput s).modePin).symm
  have hreset := resetCpu_of_memory source hvector hm hm1
  refine ⟨_, step_of_due hdue, hsp, hh, hi, hrun, hwindow, ?_, ?_, hlast, ?_, fun b hb => ?_⟩
  · rw [hreset]
    exact resetStart_monitorMode source _
  · rw [hreset]
    rfl
  · rw [hreset]
    rfl
  · rw [byteAt_resetCpu]
    obtain hother | hfixed := hb
    · rw [memoryAfterReset_other _ hother]
    · exact byteAt_memoryAfterReset source _ hfixed

/-- Settles O13, access by access: each is abandoned where it meets the illegal address. -/
theorem illegalAddressReset : Obligations.IllegalAddressReset := by
  refine ⟨fun a v s hd hi => ⟨busRead_illegal hd hi, busWrite_illegal hd hi⟩, fun s b => ?memory,
    fun m s hd hi => ⟨?load, ?store⟩, fun dd s s1 h1 hd hi => ?sthx, ?fetch,
    fun i s hd hi hform => exec_push_illegal hd hi hform,
    fun i s hd hi hform => exec_pull_illegal hd hi hform, ?vector,
    fun source s v hv hi => resetCpu_illegalVector source hv hi, fun s hdue => ?due⟩
  case memory => rw [byteAt_resetCpu, memoryAfterReset_other s (by decide)]
  case load =>
    rw [exec_ldaOf, loadA, readOperand, busRead_illegal hd hi, Bus.andThen_cut, finish_cut]
  case store => rw [exec_staOf, storeByte, busWrite_illegal hd hi, Bus.andThen_cut, finish_cut]
  case sthx =>
    rw [← (busWrite_ok h1).1.device] at hi
    exact exec_sthx_cut h1 (busWrite_illegal hd hi)
  case fetch =>
    intro s u i rest k hu hrun hreset hrec ho hdec hk hm hi
    obtain ⟨r, hfetch⟩ := fetchInstr_decoded_illegal ((closeWindow_resetIn u).trans hreset)
      ((overwritten_closeWindow u).trans ho)
      ((congrArg decode (bytesAt_closeWindow u 4)).trans hdec) hk (memoryFrom_closeWindow hm)
      (by rwa [closeWindow_pc, closeWindow_device])
    rw [step_of_not_recognised hu hrun hreset hrec, runInstruction, hfetch, ← advance_closeWindow]
    exact congrArg _ (resetCpu_congr (by decide) rfl)
  case vector =>
    rintro enter v s s1 s2 s3 s4 s5 (⟨rfl, rfl, h1⟩ | ⟨n, -, rfl, rfl, h1⟩) h2 h3 h4 h5 hd hi
    · exact takeException_illegalVector h1 h2 h3 h4 h5 hd hi
    · exact takeException_illegalVector (s := { s with recent := [] }) h1 h2 h3 h4 h5 hd hi
  case due =>
    obtain ⟨again, hagain⟩ := takeInput_due hdue
    exact ⟨again, step_of_due hagain⟩

/-- Settles O14: the first write completes, and then the reset is due. -/
theorem resetInsideStore : Obligations.ResetInsideStore := by
  intro dd s source hreset hsource hram
  obtain ⟨s1, h1, hdue⟩ := busWrite_beforeReset s.h hreset hram.2
  obtain ⟨⟨-, hother⟩, hstored⟩ := busWrite_ok h1
  rw [Stored, if_pos hram.1] at hstored
  have hbyte (b : Word) : (resetCpu source s1).byteAt b = s1.byteAt b := by
    rw [byteAt_resetCpu, memoryAfterReset_other s1 hsource]
  obtain ⟨hsp, hh, hi, hrun, -, -, -, -, hlast⟩ := resetCpu_forced source s1
  exact ⟨_, exec_sthx_cut h1 (busWrite_due hdue), (hbyte _).trans hstored,
    fun b hb => (hbyte b).trans (hother b (List.mem_singleton.not.mpr hb)), hsp, hh, hi, hrun,
    hlast⟩

/-- Settles O7: the first write to a byte of RAM puts the old byte on record, and the fetch of a
byte on record draws one of the two. -/
theorem opcodePrefetchHazard : Obligations.OpcodePrefetchHazard := by
  refine ⟨fun a v s t hram hw => ⟨?stored, ?record, fun b hb => ?others⟩,
    fun i s t hu hrecord hexec b hb hchanged => ?instruction,
    fun n s t hu hentry b hb hchanged => ?entry, fun m s s1 hrecord hram hw => ?sta,
    fun s old haccess hram ho => ⟨_, _, fetchOpcode_recorded haccess hram ho, rfl, rfl⟩⟩
  case stored =>
    have hstored := (busWrite_ok hw).2
    rwa [Stored, if_pos hram] at hstored
  case record => rw [overwritten_busWrite hw, if_pos ⟨hram, rfl⟩]
  case others => rw [overwritten_busWrite hw, if_neg fun h => hb h.2.symm]
  case instruction =>
    have hends := exec_ends (OldBytesKnown.kept s) i (.start (t := s) hu (by rw [← hrecord]))
    rw [hexec] at hends
    exact (OldBytesKnown.of_ends hends).overwritten_of_changed hb hchanged
  case entry =>
    have hkept := OldBytesKnown.kept s
    have hends := hkept.finish (hkept.takeException (ireqVector n) (.start hu rfl))
    rw [show finish (takeException (ireqVector n) { s with recent := [] }) = .next t from hentry]
      at hends
    exact (OldBytesKnown.of_ends hends).overwritten_of_changed hb hchanged
  case sta =>
    refine ⟨_, (exec_staOf m s).trans (storeByte_ok hw), ?_⟩
    have hrec := overwritten_busWrite hw (effectiveAddress m s)
    rwa [if_pos ⟨hram, rfl⟩, overwritten_nil hrecord, Option.getD_none] at hrec

/-- Settles O23: every instruction is made of accesses, and the one stop of a step is at an empty
place of the opcode map. -/
theorem noInstructionStops : Obligations.NoInstructionStops := ⟨exec_next, proceeds_step⟩

end Sys2Proof.Settled
end
